-- ==== Sys2Proof/Word.lean ====
section
/-! DEFINITION. The word types of the part, and its instants of time. -/
namespace Sys2Proof

/-- One byte of a frame or of a two-wire transfer (R183). -/
abbrev Byte := BitVec 8

/-- A tag, 0–15 (R169). -/
abbrev Tag := BitVec 4

/-- A 7-bit two-wire bus address (00_scope.md 4.2). -/
abbrev BusAddress := BitVec 7

/-- An instant or a duration on the model's clock, in ticks of 100 ns (log 1). -/
abbrev Time := Nat

/-- Sparse data by key: pairs of a key and a value, keys strictly rising. -/
abbrev Table (α : Type) := List (Nat × α)

end Sys2Proof
end

