-- ==== Sys2Proof/Syntax.lean ====
section
/-! DEFINITION. The commands of the part: one constructor per row of spec/opcode_table.json, with its operands. -/
namespace Sys2Proof

/-- The two request links (R167, R168). -/
inductive Link where
  | a
  | b
  deriving DecidableEq, Repr

/-- The six downstream ports P0–P5 (00_scope.md 3.2). -/
inductive Port where
  | p0
  | p1
  | p2
  | p3
  | p4
  | p5
  deriving DecidableEq, Repr

/-- A handle slot:generation (00_scope.md 4.3, R1). -/
structure Handle where
  slot : Nat
  gen : BitVec 4
  deriving DecidableEq, Repr

/-- Which part of a GET exchange a GET command is (R172, R173; log 5): its start, when the part copies the head
entry; its end, with the number of response bytes that were clocked; or the whole exchange with nothing between. -/
inductive GetPart where
  | start
  | finish (clocked : Nat)
  | whole (clocked : Nat)
  deriving DecidableEq, Repr

/-- What the engine reads in the high period of one clock pulse of step 4 of a bus clear (R95). -/
inductive PulseReading where
  | clockHeld
  | dataLow
  | dataHigh
  deriving DecidableEq, Repr

/-- What the engine reads during the steps of a bus clear (R95): whether the clock line is high, or rises within
tSTRETCH (step 2); whether the data line is then high (step 3); the readings of the pulses of step 4; whether both
lines are high after the STOP of step 5. -/
structure ClearReading where
  clockRises : Bool
  dataHigh : Bool
  pulses : List PulseReading
  linesHigh : Bool
  deriving DecidableEq, Repr

/-- The commands (log 4 says why a request carries its parameter block as bytes). -/
inductive Instr where
  | put (l : Link) (bytes : List Byte)
  | get (l : Link) (part : GetPart)
  | badDirectionWindow (direction : Byte)
  | addressOnlyWrite (address : BusAddress)
  | queryEndpoint (l : Link) (tag : Tag) (ps : List Byte)
  | lookup (l : Link) (tag : Tag) (ps : List Byte)
  | listEndpoints (l : Link) (tag : Tag) (ps : List Byte)
  | querySegment (l : Link) (tag : Tag) (ps : List Byte)
  | queryGroup (l : Link) (tag : Tag) (ps : List Byte)
  | queryDirectory (l : Link) (tag : Tag) (ps : List Byte)
  | openSession (l : Link) (tag : Tag) (ps : List Byte)
  | discardSession (l : Link) (tag : Tag) (ps : List Byte)
  | addEndpoint (l : Link) (tag : Tag) (ps : List Byte)
  | modifyEndpoint (l : Link) (tag : Tag) (ps : List Byte)
  | retireEndpoint (l : Link) (tag : Tag) (ps : List Byte)
  | addSegment (l : Link) (tag : Tag) (ps : List Byte)
  | retireSegment (l : Link) (tag : Tag) (ps : List Byte)
  | setGroup (l : Link) (tag : Tag) (ps : List Byte)
  | commit (l : Link) (tag : Tag) (ps : List Byte)
  | abortCommit (l : Link) (tag : Tag) (ps : List Byte)
  | sessionExpired
  | commitDeadline
  | transact (l : Link) (tag : Tag) (ps : List Byte)
  | release (l : Link) (tag : Tag) (ps : List Byte)
  | quarantine (l : Link) (tag : Tag) (ps : List Byte)
  | clearScore (l : Link) (tag : Tag) (ps : List Byte)
  | reserve (l : Link) (tag : Tag) (ps : List Byte)
  | unreserve (l : Link) (tag : Tag) (ps : List Byte)
  | reservationExpired (h : Handle)
  | groupTransact (l : Link) (tag : Tag) (ps : List Byte)
  | contextDeadline (c : Nat)
  | configurePort (l : Link) (tag : Tag) (ps : List Byte)
  | queryPort (l : Link) (tag : Tag) (ps : List Byte)
  | clearBus (l : Link) (tag : Tag) (ps : List Byte)
  | resumePort (l : Link) (tag : Tag) (ps : List Byte)
  | identify (l : Link) (tag : Tag) (ps : List Byte)
  | configureLink (l : Link) (tag : Tag) (ps : List Byte)
  | configureDevice (l : Link) (tag : Tag) (ps : List Byte)
  | getAttention (l : Link) (tag : Tag) (ps : List Byte)
  | linkReset (l : Link) (tag : Tag) (ps : List Byte)
  | softReset (l : Link) (tag : Tag) (ps : List Byte)
  | rstnAssert
  | rstnRelease (straps : BitVec 2)
  | phaseStart (p : Port)
  | selectionWriteAck (p : Port)
  | segmentFault (p : Port)
  | recoveryPollAck (p : Port)
  | recoveryPollNack (p : Port)
  | transferComplete (p : Port) (data : List Byte)
  | addressNack (p : Port)
  | dataNack (p : Port)
  | arbitrationLoss (p : Port)
  | stretchLimit (p : Port)
  | sdaLowLimit (p : Port)
  | busClearEnd (p : Port) (reading : ClearReading)
  | transactionDeadline (slot : Nat)
  | timedRecoveryExpiry (h : Handle)
  | pollWaitEnd (h : Handle)
  | pollWindowEnd (h : Handle)
  | decayExpiry (p : Port)
  | freeLineExpiry (p : Port)
  | portLinesChange (p : Port) (scl : Bool) (sda : Bool)
  | inhibitInputChange (p : Port) (high : Bool)
  | inhibitFilterExpiry (p : Port)
  | holdoffExpiry (p : Port)
  | inhibitAbort (p : Port) (maskAcked : Bool)
  | windowWithNoWholeByte
  deriving DecidableEq, Repr

end Sys2Proof
end

