-- ==== Sys2Proof/Decode.lean ====
section
/-! DEFINITION. Table words. No row of spec/opcode_table.json gives bits ("fields" is empty and "fixed" is absent in
every row: 98_reader.md counts 67 rows without them), so no table word spells a command. The byte layouts of the
request frames are decoded where the frames are taken (Machine/Frames.lean, Machine/Operands.lean). -/
namespace Sys2Proof

/-- The command that a table word spells: none, for no row gives bits. -/
def decodeTableWord (_nbits _w : Nat) : Option Instr :=
  none

end Sys2Proof
end

