-- ==== Sys2Proof/Config.lean ====
section
/-! DEFINITION. What the part fixes: capacities (00_scope.md 3.2), fixed times (00_scope.md 3.3, R85, R86),
the encodings of its identity (R185), and its one free value. -/
namespace Sys2Proof.Config

/-- Ticks of the model's clock in a millisecond: a tick is 100 ns, the coarsest unit in which every time the spec
names (1.3 µs, 1.2 µs, 0.5 µs) is whole (log 1). -/
def ticksPerMs : Nat := 10000

/-- A duration in milliseconds, in ticks. -/
def ms (n : Nat) : Time := n * ticksPerMs

/-- Endpoint record slots (R1). -/
def endpointSlots : Nat := 128
/-- Segment slots, roots 0–5 and configurable 6–31 (R11). -/
def segmentSlots : Nat := 32
/-- The root segments are 0 up to this (R11). -/
def rootSegments : Nat := 6
/-- Groups (R12). -/
def groupCount : Nat := 16
/-- Members of one group at most (R12). -/
def groupMembers : Nat := 12
/-- Transaction slots (R52). -/
def transactionSlots : Nat := 48
/-- Slots attributable to one link (R52). -/
def slotsPerLink : Nat := 32
/-- Reservation entries (R137). -/
def reservationEntries : Nat := 16
/-- Group contexts (R152). -/
def groupContexts : Nat := 4
/-- Tags of one link (R170). -/
def tagsPerLink : Nat := 16
/-- Handles returned by one LIST_ENDPOINTS (R18). -/
def listedHandles : Nat := 8
/-- Longest parameter block (R183). -/
def parameterBytes : Nat := 64
/-- The fault score saturates here (R8). -/
def scoreMax : Nat := 63
/-- The arbitration-loss counter saturates here (R124). -/
def lossCounterMax : Nat := 15
/-- Arbitration losses of one transaction that start a new attempt (R91). -/
def lossesPerTransaction : Nat := 4
/-- Occurrence counts and frame error counts saturate here (R174, R169). -/
def countMax : Nat := 255

/-- tPOLL (00_scope.md 3.3), in ms. -/
def tPoll : Nat := 1
/-- tSDA (00_scope.md 3.3), in ms. -/
def tSda : Nat := 5
/-- tFREE (00_scope.md 3.3), in ms. -/
def tFree : Nat := 1
/-- tDECAY (00_scope.md 3.3), in ms. -/
def tDecay : Nat := 100

/-- tSESS at power-on, in ms (R22). -/
def tSessDefault : Nat := 5000
/-- The default tCMT at power-on, in ms (R22). -/
def tCmtDefault : Nat := 1000
/-- The default transaction deadline of a link at power-on, in ms (R178). -/
def deadlineDefault : Nat := 100

/-- Direction byte of a PUT on Link A (R183). -/
def putByte : Byte := 0xA5
/-- Direction byte of a GET on Link A (R183). -/
def getByte : Byte := 0x5A

/-- The vendor identity, ASCII FBRM (R185). -/
def vendorIdentity : List Byte := [0x46, 0x42, 0x52, 0x4D]
/-- The part identity (R185). -/
def partIdentity : List Byte := [0x37, 0x06]

/-- Link B's address with both straps low (R168). -/
def linkBBase : BusAddress := 0x4C

/-- The silicon revision, "a number fixed in the part" (R177) whose value the spec does not give: a FREE VALUE
(log 8). -/
opaque siliconRevision : Byte

end Sys2Proof.Config
end

