-- ==== Sys2Proof/Machine/State.lean ====
section
/-! DEFINITION. The state of the part as plain data, and the state after reset. INVENTORY.md lists every piece with
the rule that names it. What one piece of state fixes about another is stored once (log 9): a slot's state, the
port queues, the in-flight and attributed counts, the reservation fields, the commit-pending marks, the engine
states and the ALERT lines are computed by the accessors of Machine/Ops.lean. -/
namespace Sys2Proof.Machine

/-- One value per link. -/
structure PerLink (α : Type) where
  a : α
  b : α
  deriving DecidableEq, Repr

/-- One value per port. -/
structure PerPort (α : Type) where
  p0 : α
  p1 : α
  p2 : α
  p3 : α
  p4 : α
  p5 : α
  deriving DecidableEq, Repr

/-- Speed classes (00_scope.md 4.6). -/
inductive SpeedClass where
  | standard
  | fast
  | fastPlus
  deriving DecidableEq, Repr

/-- Access levels of a record (R5). -/
inductive Access where
  | none
  | read
  | readWrite
  deriving DecidableEq, Repr

/-- Write recovery modes (01_the_endpoint_directory.md 1.2). -/
inductive RecoveryMode where
  | none
  | timed
  | poll
  deriving DecidableEq, Repr

/-- Recovery mode and window of a record: the window, in ms, is absent exactly when the mode is NONE (R4). -/
inductive Recovery where
  | none
  | timed (window : Nat)
  | poll (window : Nat)
  deriving DecidableEq, Repr

/-- The configuration part of an endpoint record (01_the_endpoint_directory.md 1.2). -/
structure EndpointConfig where
  segment : Nat
  address : BusAddress
  indexWidth : Nat
  speed : SpeedClass
  accessA : Access
  accessB : Access
  retryLimit : Nat
  recovery : Recovery
  weight : Nat
  threshold : Nat
  label : Option (BitVec 32)
  deriving DecidableEq, Repr

/-- Quarantine causes (R8). -/
inductive QuarantineCause where
  | budget
  | operator
  deriving DecidableEq, Repr

/-- The runtime state with its quarantine cause, present in QUARANTINED and PROBING alone (R8). -/
inductive Health where
  | active
  | quarantined (cause : QuarantineCause)
  | probing (cause : QuarantineCause)
  deriving DecidableEq, Repr

/-- The forms of write-busy (R9). -/
inductive WriteBusy where
  | timed (expiry : Time)
  | poll (windowEnd : Time) (pollWait : Option Time)
  deriving DecidableEq, Repr

/-- The runtime part of a committed LIVE record (R7). Its in-flight count and its reservation field are computed
from the slot pool and the reservation table (R10). -/
structure Runtime where
  health : Health
  score : Nat
  writeBusy : Option WriteBusy
  deriving DecidableEq, Repr

/-- A committed LIVE record: its configuration part and its runtime part (R1, R7). -/
structure Record where
  config : EndpointConfig
  runtime : Runtime
  deriving DecidableEq, Repr

/-- A configurable segment (R11). -/
structure Segment where
  port : Port
  mux : BusAddress
  channel : BitVec 3
  speed : SpeedClass
  deriving DecidableEq, Repr

/-- The staging view (R13, R26): a configuration without runtime parts. A group that is not listed is empty. -/
structure Configuration where
  endpoints : Table EndpointConfig
  segments : Table Segment
  groups : Table (List Handle)
  deriving DecidableEq, Repr

/-- Commit modes (R37). -/
inductive CommitMode where
  | wait
  | preempt
  deriving DecidableEq, Repr

/-- The commit record of an ARMED session (R25, R39). The link of the COMMIT is the session's holder. -/
structure CommitRecord where
  mode : CommitMode
  deadline : Time
  tag : Tag
  affected : List Handle
  deriving DecidableEq, Repr

/-- The staging session: NONE, OPEN with its tSESS expiry, or ARMED (R25). -/
inductive Session where
  | absent
  | opened (holder : Link) (staging : Configuration) (idleExpiry : Time)
  | armed (holder : Link) (staging : Configuration) (commit : CommitRecord)
  deriving DecidableEq, Repr

/-- Operations of a transaction (R47). -/
inductive Operation where
  | read
  | write
  | probe
  deriving DecidableEq, Repr

/-- The statuses of responses and the outcomes of transactions and members (11_frame_and_record_layouts.md 11.5). -/
inductive Status where
  | ok
  | empty
  | badParameter
  | staleHandle
  | accessDenied
  | quarantined
  | reserved
  | commitPending
  | portDisabled
  | portHeld
  | noSlot
  | notFound
  | noSession
  | sessionHeld
  | stageFrozen
  | noSuchSegment
  | duplicateAddress
  | duplicateLabel
  | addressConflict
  | segmentInUse
  | tableFull
  | probeInProgress
  | notQuarantined
  | notActive
  | noReservationSlot
  | notHolder
  | notReserved
  | emptyGroup
  | noGroupContext
  | portBusy
  | conditionPresent
  | notHeld
  | commitDeadline
  | commitAborted
  | addressNack
  | dataNack
  | arbitrationLost
  | busStuck
  | segmentFault
  | abortedInhibit
  | deadlineExpired
  | cancelledCommit
  | cancelledQuarantine
  | cancelledDisable
  | skippedQuarantined
  | skippedReserved
  | skippedCommit
  | skippedPort
  | notAttempted
  deriving DecidableEq, Repr

/-- Origin and kind of a transaction (R53, 00_scope.md 4.7): a TRANSACT or a release probe of a link with its tag,
or a member of a group context with its position. -/
inductive Origin where
  | transact (l : Link) (tag : Tag)
  | releaseProbe (l : Link) (tag : Tag)
  | member (context : Nat) (position : Nat)
  deriving DecidableEq, Repr

/-- The multiplexer path of a configurable segment, as a snapshot holds it (R53). -/
structure MuxPath where
  mux : BusAddress
  channel : BitVec 3
  speed : SpeedClass
  deriving DecidableEq, Repr

/-- The snapshot of a record and its segment in a transaction slot (R53). -/
structure Snapshot where
  segment : Nat
  port : Port
  path : Option MuxPath
  address : BusAddress
  indexWidth : Nat
  speed : SpeedClass
  retryLimit : Nat
  recovery : RecoveryMode
  deriving DecidableEq, Repr

/-- A transaction slot in use (R53). -/
structure Txn where
  slot : Nat
  origin : Origin
  attributed : Link
  handle : Handle
  snapshot : Snapshot
  operation : Operation
  index : Option (BitVec 24)
  length : Option Nat
  data : List Byte
  deadline : Time
  epoch : BitVec 16
  retries : Nat
  losses : Nat
  orphan : Bool
  deriving DecidableEq, Repr

/-- Origin classes of the arbiter (R68). -/
inductive OriginClass where
  | linkA
  | linkB
  | group
  deriving DecidableEq, Repr

/-- What the engine takes to be open on its port (R70). -/
inductive OpenChannel where
  | none
  | unknown
  | channel (mux : BusAddress) (channel : BitVec 3)
  deriving DecidableEq, Repr

/-- A selection write (R71): the multiplexer, the channel whose mask is written (none for a zero write), and the
open channel once it has been acknowledged (R70). -/
structure SelectionWrite where
  mux : BusAddress
  channel : Option (BitVec 3)
  opens : OpenChannel
  deriving DecidableEq, Repr

/-- A bus clear is automatic (R77), or manual with the CLEAR_BUS it answers, absent once that link has been
reset (R78). -/
inductive ClearKind where
  | automatic
  | manual (requester : Option (Link × Tag))
  deriving DecidableEq, Repr

/-- The work an engine has in hand (R64, R65): a selection with the writes still to be acknowledged, a recovery
poll or a transfer of the ACTIVE transaction's slot, or a bus clear. -/
inductive Work where
  | selecting (slot : Nat) (writes : List SelectionWrite)
  | polling (slot : Nat)
  | transferring (slot : Nat)
  | clearing (kind : ClearKind)
  deriving DecidableEq, Repr

/-- What a phase puts on the bus (R85, R87, R95). A `receive n` reads n bytes, of which the engine acknowledges all
but the last; `pulses n` is at most n clock pulses with the data line released. -/
inductive BusItem where
  | start
  | repeatedStart
  | send (byte : Byte)
  | receive (count : Nat)
  | pulses (most : Nat)
  | stop
  deriving DecidableEq, Repr

/-- A phase under way (R85): what it puts on the bus, its speed class, and the stretch limit, in ms, that the port
had when the phase began (R92). -/
structure Phase where
  items : List BusItem
  speed : SpeedClass
  stretch : Nat
  deriving DecidableEq, Repr

/-- Containment modes (R79). -/
inductive ContainmentMode where
  | blockAll
  | blockWrites
  | flagOnly
  deriving DecidableEq, Repr

/-- Containment recovery methods (R79). -/
inductive RecoveryMethod where
  | auto
  | holdoff
  | manual
  deriving DecidableEq, Repr

/-- The port configuration (R79); times in ms. -/
structure PortConfig where
  enable : Bool
  mode : ContainmentMode
  recovery : RecoveryMethod
  tHold : Nat
  lossThreshold : Nat
  tInh : Nat
  tStretch : Nat
  deriving DecidableEq, Repr

/-- A port engine. `phase` is absent while the engine waits to begin the next phase of its work (R86); `since` is when
the engine came to its work, or last gave the bus up: no hold of a line counts for it from before (R92, R93, R95);
`abortPending` is set when INHIBIT joined under BLOCK_ALL while a phase was under way, until the byte boundary
(R133). -/
structure Engine where
  config : PortConfig
  work : Option Work
  phase : Option Phase
  since : Time
  abortPending : Bool
  openChannel : OpenChannel
  pointer : OriginClass
  deriving DecidableEq, Repr

/-- The two lines of a port as the part observes them: true is high; when each last changed (R86, R92, R93); and
whether another master's transfer is in progress (R86). -/
structure Lines where
  scl : Bool
  sda : Bool
  sclSince : Time
  sdaSince : Time
  otherMaster : Bool
  deriving DecidableEq, Repr

/-- Causes of containment (R122). -/
inductive Cause where
  | stuck
  | arbitration
  | inhibit
  deriving DecidableEq, Repr

/-- A subset of the causes (R121). -/
structure CauseSet where
  stuck : Bool
  arbitration : Bool
  inhibit : Bool
  deriving DecidableEq, Repr

/-- Containment states (R127); HOLDOFF carries the expiry of the holdoff timer, which runs in it alone (R128). -/
inductive ContainmentState where
  | clear
  | held
  | holdoff (expiry : Time)
  | awaitResume
  deriving DecidableEq, Repr

/-- The free-line measurement (R121, R123): stopped; running with a line low; running with both lines high since a
time. -/
inductive FreeLine where
  | stopped
  | low
  | high (since : Time)
  deriving DecidableEq, Repr

/-- A containment unit (R121). `inhHigh` is the level of INHx_N last seen. -/
structure Containment where
  state : ContainmentState
  causes : CauseSet
  freeLine : FreeLine
  losses : Nat
  decay : Option Time
  inhHigh : Bool
  inhSince : Time
  deriving DecidableEq, Repr

/-- A reservation entry in use (R137). -/
structure Reservation where
  handle : Handle
  holder : Link
  expiry : Time
  deriving DecidableEq, Repr

/-- Group policies (R150). -/
inductive Policy where
  | continueAll
  | stopOnFail
  deriving DecidableEq, Repr

/-- The condition of a member of a context (R152); WAITING and IN_FLIGHT hold the marker of a port. -/
inductive MemberCondition where
  | pending
  | waiting (port : Port)
  | inFlight (port : Port)
  | finished (outcome : Status) (data : List Byte)
  deriving DecidableEq, Repr

/-- One position of a context's member snapshot (R152). -/
structure Member where
  handle : Handle
  condition : MemberCondition
  deriving DecidableEq, Repr

/-- A group context in use (R152). -/
structure Context where
  link : Link
  tag : Tag
  group : Nat
  operation : Operation
  index : Option (BitVec 24)
  length : Option Nat
  data : List Byte
  policy : Policy
  deadline : Time
  epoch : BitVec 16
  members : List Member
  stopFlag : Bool
  deriving DecidableEq, Repr

/-- A response waiting in a response queue (R172). -/
structure Response where
  tag : Tag
  status : Status
  payload : List Byte
  deriving DecidableEq, Repr

/-- Attention kinds, in the order of the table of R174. -/
inductive AttentionKind where
  | deviceReset
  | softResetDone
  | frameError
  | directoryChanged
  | sessionExpired
  | quarantineEntered
  | quarantineReleased
  | portHeld
  | portCleared
  | segmentFault
  | reservationExpired
  | reservationRevoked
  deriving DecidableEq, Repr

/-- Subjects of attention entries (R174). -/
inductive Subject where
  | none
  | handle (h : Handle)
  | segment (n : Nat)
  | port (p : Port)
  deriving DecidableEq, Repr

/-- An attention entry (R174). -/
structure AttentionEntry where
  subject : Subject
  count : Nat
  deriving DecidableEq, Repr

/-- The link configuration (R178); the default deadline in ms; bit k of the mask stands for kind k (R185). -/
structure LinkConfig where
  defaultDeadline : Nat
  alertMask : BitVec 12
  responseAlert : Bool
  deriving DecidableEq, Repr

/-- A GET in progress (R172, R173): the copy it sends, and whether the head entry it copied still stands. -/
structure GetInProgress where
  copy : List Byte
  fromHead : Bool
  deriving DecidableEq, Repr

/-- A link interface (10_request_links_and_attention.md). The attention set is keyed by the number of the kind.
`sent` is the model's own output: the bytes the part last put out on the link (log 6). -/
structure LinkState where
  outstanding : List Tag
  queue : List Response
  attention : Table AttentionEntry
  config : LinkConfig
  frameErrors : Nat
  getting : Option GetInProgress
  sent : List Byte
  deriving DecidableEq, Repr

/-- The state of the part. Endpoint records are keyed by slot, segments by number (6–31), groups by number, contexts
by number; a slot of the pool in use is one entry of `pool`, in the order of admission (R66); a generation that is
not listed is 0. -/
structure State where
  now : Time
  rstnLow : Bool
  linkBAddress : BusAddress
  tSess : Nat
  tCmt : Nat
  records : Table Record
  generations : Table (BitVec 4)
  segments : Table Segment
  groups : Table (List Handle)
  epoch : BitVec 16
  session : Session
  pool : List Txn
  waiting : List (Nat × Nat)
  engines : PerPort Engine
  lines : PerPort Lines
  units : PerPort Containment
  reservations : List Reservation
  contexts : Table Context
  links : PerLink LinkState
  pending : List Instr
  deriving DecidableEq, Repr

/-- Reasons a step can fault: none. The spec names nothing that stops the part; every bad frame, parameter, state and
bus failure has an effect it states. So no step faults, by the type alone: safe. -/
inductive Fault where
  deriving DecidableEq, Repr

/-- Reasons a step can be refused. -/
inductive Refusal where
  /-- A command that has no meaning yet, raised by exec alone: safe, for a refused step proves nothing about the
  part. No arm of exec answers it. -/
  | notModelled (mnemonic : String)
  deriving DecidableEq, Repr

/-- The port configuration after power-on (R79). -/
def PortConfig.reset : PortConfig :=
  { enable := false, mode := .blockAll, recovery := .manual, tHold := 50, lossThreshold := 8, tInh := 4, tStretch := 25 }

/-- A port engine after power-on (R83). -/
def Engine.reset : Engine :=
  { config := PortConfig.reset, work := none, phase := none, since := 0, abortPending := false,
    openChannel := .unknown, pointer := .group }

/-- The lines of a port at reset, released and pulled up: DESIGN CHOICE (log 7). -/
def Lines.reset : Lines :=
  { scl := true, sda := true, sclSince := 0, sdaSince := 0, otherMaster := false }

/-- A containment unit after power-on (R121), with the level sampled on its inhibit input and the time of sampling. -/
def Containment.reset (inhHigh : Bool) (sampled : Time) : Containment :=
  { state := .clear, causes := { stuck := false, arbitration := false, inhibit := false }, freeLine := .stopped,
    losses := 0, decay := none, inhHigh := inhHigh, inhSince := sampled }

/-- The link configuration after power-on (R178). -/
def LinkConfig.reset : LinkConfig :=
  { defaultDeadline := Config.deadlineDefault, alertMask := 0xFFF, responseAlert := true }

/-- A link interface after the release of RSTN (R182): DEVICE_RESET, kind 0, is in its attention set. -/
def LinkState.reset : LinkState :=
  { outstanding := [], queue := [], attention := [(0, { subject := .none, count := 1 })], config := LinkConfig.reset,
    frameErrors := 0, getting := none, sent := [] }

/-- The part right after the release of RSTN (R22, R62, R83, R136, R149, R164, R182), straps low, every inhibit
input and port line high (log 7), no command waiting. -/
def State.reset : State :=
  { now := 0, rstnLow := false, linkBAddress := Config.linkBBase, tSess := Config.tSessDefault,
    tCmt := Config.tCmtDefault, records := [], generations := [], segments := [], groups := [], epoch := 0,
    session := .absent, pool := [], waiting := [],
    engines := ⟨.reset, .reset, .reset, .reset, .reset, .reset⟩,
    lines := ⟨.reset, .reset, .reset, .reset, .reset, .reset⟩,
    units := ⟨.reset true 0, .reset true 0, .reset true 0, .reset true 0, .reset true 0, .reset true 0⟩,
    reservations := [], contexts := [], links := ⟨.reset, .reset⟩, pending := [] }

end Sys2Proof.Machine
end

