-- ==== Sys2Proof/Machine/Table.lean ====
section
/-! DEFINITION. Operations on the sparse tables (Table), and on the values held per link and per port. -/
namespace Sys2Proof

/-- The value at a key. -/
def Table.find {α : Type} : Table α → Nat → Option α
  | [], _ => none
  | (k, v) :: rest, key => if k = key then some v else Table.find rest key

/-- The table with a value at a key; keys stay strictly rising. -/
def Table.put {α : Type} : Table α → Nat → α → Table α
  | [], key, value => [(key, value)]
  | (k, v) :: rest, key, value =>
    if key < k then (key, value) :: (k, v) :: rest
    else if key = k then (key, value) :: rest
    else (k, v) :: Table.put rest key value

/-- The table without a key. -/
def Table.remove {α : Type} (t : Table α) (key : Nat) : Table α :=
  List.filter (fun e => decide (e.1 ≠ key)) t

/-- The table with every value changed; keys stay. -/
def Table.mapValues {α β : Type} (f : Nat → α → β) (t : Table α) : Table β :=
  List.map (fun e => (e.1, f e.1 e.2)) t

/-- The number of entries whose value meets a condition. -/
def Table.countIf {α : Type} (f : α → Bool) (t : Table α) : Nat :=
  (List.filter (fun e => f e.2) t).length

/-- Keys are strictly rising: the canonical form. -/
def Table.sorted {α : Type} : Table α → Bool
  | [] => true
  | (k, _) :: rest => (rest.all fun e => decide (k < e.1)) && Table.sorted rest

/-- The lowest number below a bound that is not used. -/
def lowestFree (bound : Nat) (used : Nat → Bool) : Option Nat :=
  (List.range bound).find? fun n => !used n

/-- The other link (00_scope.md 4.1). -/
def Link.other : Link → Link
  | .a => .b
  | .b => .a

/-- Ports in the order P0 to P5. -/
def Port.all : List Port := [.p0, .p1, .p2, .p3, .p4, .p5]

/-- The number of a port. -/
def Port.num : Port → Nat
  | .p0 => 0
  | .p1 => 1
  | .p2 => 2
  | .p3 => 3
  | .p4 => 4
  | .p5 => 5

/-- The port of a number, 0–5. -/
def Port.ofNat? : Nat → Option Port
  | 0 => some .p0
  | 1 => some .p1
  | 2 => some .p2
  | 3 => some .p3
  | 4 => some .p4
  | 5 => some .p5
  | _ => none

namespace Machine

/-- The value of a link. -/
def PerLink.get {α : Type} (x : PerLink α) : Link → α
  | .a => x.a
  | .b => x.b

/-- The values with that of one link replaced. -/
def PerLink.set {α : Type} (x : PerLink α) (l : Link) (v : α) : PerLink α :=
  match l with
  | .a => { x with a := v }
  | .b => { x with b := v }

/-- The value of a port. -/
def PerPort.get {α : Type} (x : PerPort α) : Port → α
  | .p0 => x.p0
  | .p1 => x.p1
  | .p2 => x.p2
  | .p3 => x.p3
  | .p4 => x.p4
  | .p5 => x.p5

/-- The values with that of one port replaced. -/
def PerPort.set {α : Type} (x : PerPort α) (p : Port) (v : α) : PerPort α :=
  match p with
  | .p0 => { x with p0 := v }
  | .p1 => { x with p1 := v }
  | .p2 => { x with p2 := v }
  | .p3 => { x with p3 := v }
  | .p4 => { x with p4 := v }
  | .p5 => { x with p5 := v }

/-- Every port's value changed. -/
def PerPort.map {α β : Type} (f : α → β) (x : PerPort α) : PerPort β :=
  ⟨f x.p0, f x.p1, f x.p2, f x.p3, f x.p4, f x.p5⟩

end Machine
end Sys2Proof
end

