-- ==== Sys2Proof/Machine/Flags.lean ====
section
/-! DEFINITION. The status flags of the part: attention sets (R174), ALERT lines (R176), cause sets (R122), and
how the enumerations are numbered in frames (R184 to R186, 11.5). -/
namespace Sys2Proof.Machine

/-- The number of an attention kind (R185). -/
def AttentionKind.num : AttentionKind → Nat
  | .deviceReset => 0
  | .softResetDone => 1
  | .frameError => 2
  | .directoryChanged => 3
  | .sessionExpired => 4
  | .quarantineEntered => 5
  | .quarantineReleased => 6
  | .portHeld => 7
  | .portCleared => 8
  | .segmentFault => 9
  | .reservationExpired => 10
  | .reservationRevoked => 11

/-- The status byte (11.5). -/
def Status.byte : Status → Byte
  | .ok => 0x00
  | .empty => 0x01
  | .badParameter => 0x10
  | .staleHandle => 0x11
  | .accessDenied => 0x12
  | .quarantined => 0x13
  | .reserved => 0x14
  | .commitPending => 0x15
  | .portDisabled => 0x16
  | .portHeld => 0x17
  | .noSlot => 0x18
  | .notFound => 0x19
  | .noSession => 0x1A
  | .sessionHeld => 0x1B
  | .stageFrozen => 0x1C
  | .noSuchSegment => 0x1D
  | .duplicateAddress => 0x1E
  | .duplicateLabel => 0x1F
  | .addressConflict => 0x20
  | .segmentInUse => 0x21
  | .tableFull => 0x22
  | .probeInProgress => 0x23
  | .notQuarantined => 0x24
  | .notActive => 0x25
  | .noReservationSlot => 0x26
  | .notHolder => 0x27
  | .notReserved => 0x28
  | .emptyGroup => 0x29
  | .noGroupContext => 0x2A
  | .portBusy => 0x2B
  | .conditionPresent => 0x2C
  | .notHeld => 0x2D
  | .commitDeadline => 0x30
  | .commitAborted => 0x31
  | .addressNack => 0x40
  | .dataNack => 0x41
  | .arbitrationLost => 0x42
  | .busStuck => 0x43
  | .segmentFault => 0x44
  | .abortedInhibit => 0x45
  | .deadlineExpired => 0x46
  | .cancelledCommit => 0x47
  | .cancelledQuarantine => 0x48
  | .cancelledDisable => 0x49
  | .skippedQuarantined => 0x50
  | .skippedReserved => 0x51
  | .skippedCommit => 0x52
  | .skippedPort => 0x53
  | .notAttempted => 0x54

/-- An attention entry after one more raise (R174): the subject replaced, the count raised, saturating at 255. -/
def AttentionEntry.raised (old : Option AttentionEntry) (subject : Subject) : AttentionEntry :=
  match old with
  | none => { subject := subject, count := 1 }
  | some e => { subject := subject, count := min (e.count + 1) Config.countMax }

/-- Is a kind of the attention set in the alert mask (R176)? -/
def LinkState.attentionAlert (i : LinkState) : Bool :=
  i.attention.any fun e => i.config.alertMask.getLsbD e.1

/-- The conditions under which a link drives its ALERT line low (R176). -/
def LinkState.alert (i : LinkState) : Bool :=
  i.attentionAlert || (!i.queue.isEmpty && i.config.responseAlert)

/-- ALERTA_N or ALERTB_N is driven low (R176); it is released while RSTN is low (R182). -/
def State.alertLow (s : State) (l : Link) : Bool :=
  !s.rstnLow && (s.links.get l).alert

/-- Link B acknowledges its own address and no other, and none while RSTN is low (R168, R182). -/
def State.linkBAcknowledges (s : State) (address : BusAddress) : Bool :=
  !s.rstnLow && decide (address = s.linkBAddress)

/-- Is a cause present? -/
def CauseSet.has (c : CauseSet) : Cause → Bool
  | .stuck => c.stuck
  | .arbitration => c.arbitration
  | .inhibit => c.inhibit

/-- The set with a cause made present or absent. -/
def CauseSet.put (c : CauseSet) (x : Cause) (present : Bool) : CauseSet :=
  match x with
  | .stuck => { c with stuck := present }
  | .arbitration => { c with arbitration := present }
  | .inhibit => { c with inhibit := present }

/-- No cause is present. -/
def CauseSet.isEmpty (c : CauseSet) : Bool :=
  !c.stuck && !c.arbitration && !c.inhibit

/-- The cause byte of QUERY_PORT (R186): bit 0 STUCK, bit 1 ARBITRATION, bit 2 INHIBIT. -/
def CauseSet.byte (c : CauseSet) : Byte :=
  (if c.stuck then 1 else 0) + (if c.arbitration then 2 else 0) + (if c.inhibit then 4 else 0)

def SpeedClass.num : SpeedClass → Nat
  | .standard => 0
  | .fast => 1
  | .fastPlus => 2

def Access.num : Access → Nat
  | .none => 0
  | .read => 1
  | .readWrite => 2

def Operation.num : Operation → Nat
  | .read => 0
  | .write => 1
  | .probe => 2

def OriginClass.num : OriginClass → Nat
  | .linkA => 0
  | .linkB => 1
  | .group => 2

def ContainmentMode.num : ContainmentMode → Nat
  | .blockAll => 0
  | .blockWrites => 1
  | .flagOnly => 2

def RecoveryMethod.num : RecoveryMethod → Nat
  | .auto => 0
  | .holdoff => 1
  | .manual => 2

def CommitMode.num : CommitMode → Nat
  | .wait => 0
  | .preempt => 1

def QuarantineCause.num : QuarantineCause → Nat
  | .budget => 1
  | .operator => 2

def ContainmentState.num : ContainmentState → Nat
  | .clear => 0
  | .held => 1
  | .holdoff _ => 2
  | .awaitResume => 3

/-- A link in a byte where 0 stands for none (R186). -/
def holderNum : Option Link → Nat
  | none => 0
  | some .a => 1
  | some .b => 2

end Sys2Proof.Machine
end

