-- ==== Sys2Proof/Machine/Ops.lean ====
section
/-! DEFINITION. The named operations over the state: the clock, link interfaces, records, segments, the slot pool,
reservations, and the views that one piece of state gives of another (log 9). -/
namespace Sys2Proof.Machine

/-! ### The clock -/

/-- An instant some milliseconds after the present. -/
def State.after (s : State) (milliseconds : Nat) : Time :=
  s.now + Config.ms milliseconds

/-- The clock brought to an expiry that has come (log 2); it never goes back. -/
def State.upTo (s : State) (expiry : Time) : State :=
  { s with now := max s.now expiry }

/-- The remaining time to an expiry in whole milliseconds, rounded up; a timer that has not expired never reads 0
(R16), and one whose expiry is due and not yet taken reads 1 (R146; log 29). -/
def State.remaining (s : State) (expiry : Time) : Nat :=
  max 1 ((expiry - s.now + (Config.ticksPerMs - 1)) / Config.ticksPerMs)

/-! ### Link interfaces -/

/-- A link interface. -/
def State.link (s : State) (l : Link) : LinkState :=
  s.links.get l

/-- The state with one link interface replaced. -/
def State.setLink (s : State) (l : Link) (i : LinkState) : State :=
  { s with links := s.links.set l i }

/-- A block raises a kind on a link (R174). -/
def raise (l : Link) (kind : AttentionKind) (subject : Subject) (s : State) : State :=
  let i := s.link l
  s.setLink l { i with attention := i.attention.put kind.num (.raised (i.attention.find kind.num) subject) }

/-- A block raises a kind on both links. -/
def raiseBoth (kind : AttentionKind) (subject : Subject) (s : State) : State :=
  raise .b kind subject (raise .a kind subject s)

/-- A response enters a link's response queue and its tag ceases to be outstanding (R170, R172). A response is made
only for an outstanding tag (R170; log 24). -/
def respond (l : Link) (tag : Tag) (status : Status) (payload : List Byte) (s : State) : State :=
  let i := s.link l
  if tag ∈ i.outstanding then
    s.setLink l { i with outstanding := i.outstanding.erase tag, queue := i.queue ++ [⟨tag, status, payload⟩] }
  else s

/-- A response without payload: every refusal, and the OK responses that R186 lays out with none. -/
def answer (l : Link) (tag : Tag) (status : Status) (s : State) : State :=
  respond l tag status [] s

/-- A tag is in use while it is outstanding or waits in the response queue (R170). -/
def LinkState.tagInUse (i : LinkState) (tag : Tag) : Bool :=
  decide (tag ∈ i.outstanding) || i.queue.any fun r => decide (r.tag = tag)

/-- A frame is dropped (R169): the frame error count rises, saturating at 255, and FRAME_ERROR is raised. -/
def dropFrame (l : Link) (s : State) : State :=
  let i := s.link l
  raise l .frameError .none (s.setLink l { i with frameErrors := min (i.frameErrors + 1) Config.countMax })

/-! ### Segments -/

/-- The port of a segment (R29): n for root segment n, the port field for a configurable segment. R6 keeps the
segment of every LIVE record present in the view, so the last case is not reached for a record (log 25). -/
def portOfSegment (segments : Table Segment) (n : Nat) : Port :=
  match Port.ofNat? n with
  | some p => p
  | none => match segments.find n with
    | some g => g.port
    | none => .p0

/-- A segment is present in a view (R11). -/
def segmentPresent (segments : Table Segment) (n : Nat) : Bool :=
  decide (n < Config.rootSegments) || (segments.find n).isSome

/-! ### Records and handles -/

/-- The generation of a slot (R1). -/
def State.generation (s : State) (slot : Nat) : BitVec 4 :=
  (s.generations.find slot).getD 0

/-- The handle of the record in a slot (R1). -/
def State.handleAt (s : State) (slot : Nat) : Handle :=
  ⟨slot, s.generation slot⟩

/-- The record a handle names, when the handle is valid in the committed view (R3). -/
def State.record? (s : State) (h : Handle) : Option Record :=
  if s.generation h.slot = h.gen then s.records.find h.slot else none

/-- The state with the runtime part of the record a handle names changed. -/
def State.setRuntime (s : State) (h : Handle) (rt : Runtime) : State :=
  match s.record? h with
  | some r => { s with records := s.records.put h.slot { r with runtime := rt } }
  | none => s

/-- The port of a committed record: that of its segment (R29). -/
def State.portOf (s : State) (cfg : EndpointConfig) : Port :=
  portOfSegment s.segments cfg.segment

/-- The access level of a record for a link (R5). -/
def EndpointConfig.access (cfg : EndpointConfig) : Link → Access
  | .a => cfg.accessA
  | .b => cfg.accessB

/-- An access level permits an operation (R5, R49): READ and PROBE need READ or READ_WRITE, WRITE needs READ_WRITE. -/
def Access.permits : Access → Operation → Bool
  | .none, _ => false
  | .read, .write => false
  | .read, _ => true
  | .readWrite, _ => true

/-- The requests other than TRANSACT need READ or READ_WRITE (R5). -/
def EndpointConfig.readable (cfg : EndpointConfig) (l : Link) : Bool :=
  (cfg.access l).permits .read

/-- A fresh runtime part (R7). -/
def Runtime.fresh : Runtime :=
  { health := .active, score := 0, writeBusy := none }

def Health.isActive : Health → Bool
  | .active => true
  | _ => false

def Health.isQuarantined : Health → Bool
  | .quarantined _ => true
  | _ => false

def Health.isProbing : Health → Bool
  | .probing _ => true
  | _ => false

/-- The quarantine cause, absent in ACTIVE (R8). -/
def Health.cause? : Health → Option QuarantineCause
  | .active => none
  | .quarantined c => some c
  | .probing c => some c

/-- The recovery mode, without the window. -/
def Recovery.mode : Recovery → RecoveryMode
  | .none => .none
  | .timed _ => .timed
  | .poll _ => .poll

/-- The recovery window, absent exactly when the mode is NONE (R4). -/
def Recovery.window? : Recovery → Option Nat
  | .none => Option.none
  | .timed w => some w
  | .poll w => some w

/-! ### Reservations -/

/-- The record's reservation field: the entry in use that names its handle (R10, R137). -/
def State.reservation? (s : State) (h : Handle) : Option Reservation :=
  s.reservations.find? fun r => decide (r.handle = h)

/-- The record holds a reservation of the link other than this one (R49, R142). -/
def State.reservedAgainst (s : State) (h : Handle) (l : Link) : Bool :=
  match s.reservation? h with
  | some r => decide (r.holder ≠ l)
  | none => false

/-- The entry of a record becomes free and its timer stops (R138). -/
def removeReservation (h : Handle) (s : State) : State :=
  { s with reservations := s.reservations.filter fun r => decide (r.handle ≠ h) }

/-- A revocation (R147): the entry is removed and its holder's link gains RESERVATION_REVOKED. -/
def revokeReservation (h : Handle) (s : State) : State :=
  match s.reservation? h with
  | some r => raise r.holder .reservationRevoked (.handle h) (removeReservation h s)
  | none => s

/-! ### The slot pool -/

/-- The slot an engine's work holds ACTIVE. -/
def Work.slot? : Work → Option Nat
  | .selecting n _ => some n
  | .polling n => some n
  | .transferring n => some n
  | .clearing _ => none

/-- The port engine of a port. -/
def State.engine (s : State) (p : Port) : Engine :=
  s.engines.get p

/-- The state with one engine replaced. -/
def State.setEngine (s : State) (p : Port) (e : Engine) : State :=
  { s with engines := s.engines.set p e }

/-- The slot that the port's engine holds ACTIVE. -/
def Engine.activeSlot? (e : Engine) : Option Nat :=
  e.work.bind Work.slot?

/-- A slot in use is ACTIVE when its port's engine holds it, and QUEUED otherwise (R55, R66). -/
def State.isActive (s : State) (t : Txn) : Bool :=
  decide ((s.engine t.snapshot.port).activeSlot? = some t.slot)

/-- The port queue: the port's QUEUED transactions in the order of their admission (R66). -/
def State.queue (s : State) (p : Port) : List Txn :=
  s.pool.filter fun t => decide (t.snapshot.port = p) && !s.isActive t

/-- The transaction in a slot. -/
def State.txn? (s : State) (slot : Nat) : Option Txn :=
  s.pool.find? fun t => decide (t.slot = slot)

/-- The ACTIVE transaction of a port (R64). -/
def State.activeTxn? (s : State) (p : Port) : Option Txn :=
  (s.engine p).activeSlot?.bind s.txn?

/-- A record's in-flight count (R10). -/
def State.inFlight (s : State) (h : Handle) : Nat :=
  (s.pool.filter fun t => decide (t.handle = h)).length

/-- A link's attributed count (R52). -/
def State.attributed (s : State) (l : Link) : Nat :=
  (s.pool.filter fun t => decide (t.attributed = l)).length

/-- A FREE slot; which one a placement takes is not visible, and the model takes the lowest (R52; log 10). -/
def State.freeSlot? (s : State) : Option Nat :=
  lowestFree Config.transactionSlots fun n => s.pool.any fun t => decide (t.slot = n)

/-- The slot check of R48: a slot is FREE and the link holds fewer than 32. -/
def State.slotOpen (s : State) (l : Link) : Bool :=
  s.freeSlot?.isSome && decide (s.attributed l < Config.slotsPerLink)

/-- The transaction in a slot replaced, in its place in the order of admission. -/
def State.setTxn (s : State) (t : Txn) : State :=
  { s with pool := s.pool.map fun u => if u.slot = t.slot then t else u }

/-- The snapshot of a record and its segment as they stand in the committed view (R50, R53). -/
def State.snapshot (s : State) (cfg : EndpointConfig) : Snapshot :=
  { segment := cfg.segment
    port := s.portOf cfg
    path := if cfg.segment < Config.rootSegments then none
      else (s.segments.find cfg.segment).map fun g => ⟨g.mux, g.channel, g.speed⟩
    address := cfg.address
    indexWidth := cfg.indexWidth
    speed := cfg.speed
    retryLimit := cfg.retryLimit
    recovery := cfg.recovery.mode }

/-- Placement (R50): a FREE slot is taken and filled, the transaction joins the tail of its port's queue, the
record's in-flight count and the link's attributed count rise with it, and its deadline starts. -/
def place (origin : Origin) (l : Link) (h : Handle) (cfg : EndpointConfig) (operation : Operation)
    (index : Option (BitVec 24)) (length : Option Nat) (data : List Byte) (deadline : Time) (s : State) : State :=
  match s.freeSlot? with
  | none => s
  | some n =>
    { s with pool := s.pool ++ [
        { slot := n, origin := origin, attributed := l, handle := h, snapshot := s.snapshot cfg,
          operation := operation, index := index, length := length, data := data, deadline := deadline,
          epoch := s.epoch, retries := 0, losses := 0, orphan := false }] }

/-- The index fits a record's index width (R49): absent for width 0, and present and within 0–255, 0–65535 or
0–16777215 for width 1, 2 or 3. -/
def indexFits (width : Nat) (index : Option (BitVec 24)) : Bool :=
  match index with
  | none => decide (width = 0)
  | some i => decide (width ≠ 0) && decide (i.toNat < 256 ^ width)

/-! ### The session -/

/-- The holder of the session (R25). -/
def Session.holder? : Session → Option Link
  | .absent => none
  | .opened l _ _ => some l
  | .armed l _ _ => some l

/-- The staging view, present in OPEN and ARMED (R25). -/
def Session.staging? : Session → Option Configuration
  | .absent => none
  | .opened _ g _ => some g
  | .armed _ g _ => some g

/-- The affected set of an ARMED session (R38). -/
def Session.affected : Session → List Handle
  | .armed _ _ c => c.affected
  | _ => []

/-- The record carries the commit-pending mark (R39). -/
def State.commitPending (s : State) (h : Handle) : Bool :=
  decide (h ∈ s.session.affected)

/-- An affected record is at rest: no transaction in flight and no reservation (R42). -/
def State.atRest (s : State) (h : Handle) : Bool :=
  decide (s.inFlight h = 0) && (s.reservation? h).isNone

/-- The committed configuration, as a view (R13). -/
def State.committed (s : State) : Configuration :=
  { endpoints := s.records.mapValues fun _ r => r.config, segments := s.segments, groups := s.groups }

/-- The member list of a group in a view; a group that is not listed is empty (R12). -/
def Configuration.group (g : Configuration) (n : Nat) : List Handle :=
  (g.groups.find n).getD []

/-- A group's member list replaced; an empty list is not listed. -/
def Configuration.setGroup (g : Configuration) (n : Nat) (members : List Handle) : Configuration :=
  { g with groups := if members.isEmpty then g.groups.remove n else g.groups.put n members }

/-! ### Containment units and lines -/

/-- The containment unit of a port. -/
def State.unit (s : State) (p : Port) : Containment :=
  s.units.get p

/-- The state with one containment unit replaced. -/
def State.setUnit (s : State) (p : Port) (u : Containment) : State :=
  { s with units := s.units.set p u }

/-- The lines of a port. -/
def State.line (s : State) (p : Port) : Lines :=
  s.lines.get p

/-- When the lines of a port last changed, either of them: since then both have stood at their levels (R86). -/
def Lines.since (x : Lines) : Time :=
  max x.sclSince x.sdaSince

/-- The state with the lines of one port replaced. -/
def State.setLine (s : State) (p : Port) (x : Lines) : State :=
  { s with lines := s.lines.set p x }

/-- Containment permits an operation on a port (R131). -/
def containmentPermits (mode : ContainmentMode) (state : ContainmentState) (operation : Operation) : Bool :=
  match state with
  | .clear => true
  | _ => match mode with
    | .blockAll => false
    | .blockWrites => decide (operation ≠ .write)
    | .flagOnly => true

/-- The containment of a port permits an operation, as mode and state stand (R131). -/
def State.portPermits (s : State) (p : Port) (operation : Operation) : Bool :=
  containmentPermits (s.engine p).config.mode (s.unit p).state operation

end Sys2Proof.Machine
end

