-- ==== Sys2Proof/Machine/Frames.lean ====
section
/-! DEFINITION. Frames of the links (R169, R172, R183): the CRC-8, the check of a request frame, and the bytes of a
response frame. -/
namespace Sys2Proof.Machine

/-- One shift of the CRC register (R183): exclusive-ORed with 0x07 where a 1 left bit 7. -/
def crcShift (r : Byte) : Byte :=
  if r.msb then (r <<< 1) ^^^ 0x07 else r <<< 1

/-- The register shifted left eight times. -/
def crcShift8 (r : Byte) : Byte :=
  crcShift (crcShift (crcShift (crcShift (crcShift (crcShift (crcShift (crcShift r)))))))

/-- The register after one more byte (R183). -/
def crcStep (r b : Byte) : Byte :=
  crcShift8 (r ^^^ b)

/-- The CRC-8 of some bytes: the register starts at 0xFF (R169, R183). -/
def crc8 (bytes : List Byte) : Byte :=
  bytes.foldl crcStep 0xFF

/-- A number in one byte. -/
def byteOf (n : Nat) : Byte :=
  BitVec.ofNat 8 n

/-- A number in two bytes, most significant first (R183). -/
def wordOf (n : Nat) : List Byte :=
  [BitVec.ofNat 8 (n / 256), BitVec.ofNat 8 n]

/-- The number of two bytes, most significant first (R183). -/
def numberOf (high low : Byte) : Nat :=
  high.toNat * 256 + low.toNat

/-- A handle in two bytes (R184). -/
def handleBytes (h : Handle) : List Byte :=
  [byteOf h.slot, h.gen.setWidth 8]

/-- The bytes of a request frame before its CRC (R183). -/
def requestBody (kind : Byte) (tag : Tag) (ps : List Byte) : List Byte :=
  kind :: tag.setWidth 8 :: byteOf ps.length :: ps

/-- A request frame (R183). -/
def requestFrame (kind : Byte) (tag : Tag) (ps : List Byte) : List Byte :=
  requestBody kind tag ps ++ [crc8 (requestBody kind tag ps)]

/-- The length and CRC checks of a request frame (R169, checks 1 and 2): its kind, tag and parameter block, or none
where the frame is to be dropped. -/
def parseFrame (bytes : List Byte) : Option (Byte × Tag × List Byte) :=
  match bytes with
  | kind :: tag :: n :: rest =>
    if tag.toNat < 16 ∧ n.toNat ≤ Config.parameterBytes ∧ rest.length = n.toNat + 1 then
      if rest.drop n.toNat = [crc8 (kind :: tag :: n :: rest.take n.toNat)] then
        some (kind, tag.setWidth 4, rest.take n.toNat)
      else none
    else none
  | _ => none

/-- The bytes of a response frame (R172, R183). -/
def responseFrame (r : Response) : List Byte :=
  let body := r.tag.setWidth 8 :: r.status.byte :: (wordOf r.payload.length ++ r.payload)
  body ++ [crc8 body]

/-- The EMPTY frame that a GET sends from an empty queue (R172). -/
def emptyFrame : List Byte :=
  responseFrame { tag := 0, status := .empty, payload := [] }

/-- The bytes a GET sends when so many are clocked: 0xFF after the frame's last byte (R167, R168). -/
def clockedOut (frame : List Byte) (clocked : Nat) : List Byte :=
  frame.take clocked ++ List.replicate (clocked - frame.length) 0xFF

end Sys2Proof.Machine
end

