-- ==== Sys2Proof/Machine/Operands.lean ====
section
/-! DEFINITION. The parameter blocks of the requests (R184 to R187): every operand form, and the parameter check
that refuses a malformed block. Each reader answers none where R187 refuses BAD_PARAMETER. -/
namespace Sys2Proof.Machine

/-- A handle field (R3, R184). -/
def handle? (slot gen : Byte) : Option Handle :=
  if slot.toNat < Config.endpointSlots ∧ gen.toNat < 16 then some ⟨slot.toNat, gen.setWidth 4⟩ else none

/-- A bus address field, 0x08–0x77 (00_scope.md 4.2). -/
def address? (b : Byte) : Option BusAddress :=
  if 0x08 ≤ b.toNat ∧ b.toNat ≤ 0x77 then some (b.setWidth 7) else none

/-- A number within a range. -/
def within (low high n : Nat) : Option Nat :=
  if low ≤ n ∧ n ≤ high then some n else none

/-- A port field. -/
def port? (b : Byte) : Option Port :=
  Port.ofNat? b.toNat

/-- A channel field, 0–7. -/
def channel? (b : Byte) : Option (BitVec 3) :=
  if b.toNat < 8 then some (b.setWidth 3) else none

/-- A byte that is 0 or 1. -/
def flag? (b : Byte) : Option Bool :=
  match b.toNat with
  | 0 => some false
  | 1 => some true
  | _ => none

def speed? (b : Byte) : Option SpeedClass :=
  match b.toNat with
  | 0 => some .standard
  | 1 => some .fast
  | 2 => some .fastPlus
  | _ => none

def access? (b : Byte) : Option Access :=
  match b.toNat with
  | 0 => some .none
  | 1 => some .read
  | 2 => some .readWrite
  | _ => none

def operation? (b : Byte) : Option Operation :=
  match b.toNat with
  | 0 => some .read
  | 1 => some .write
  | 2 => some .probe
  | _ => none

/-- The recovery mode and window bytes: the window is 0 exactly when the mode is 0 (R4, R184). -/
def recovery? (mode window : Byte) : Option Recovery :=
  match mode.toNat with
  | 0 => if window.toNat = 0 then some .none else Option.none
  | 1 => (within 1 100 window.toNat).map .timed
  | 2 => (within 1 100 window.toNat).map .poll
  | _ => Option.none

/-- The label: read only when its presence byte is 1 (R184). -/
def label? (present b0 b1 b2 b3 : Byte) : Option (Option (BitVec 32)) :=
  (flag? present).map fun p => if p then some (b0 ++ b1 ++ b2 ++ b3) else none

/-- The endpoint record parameter block (R184): a whole configuration part, every field in range (R4). -/
def recordBlock? (ps : List Byte) : Option EndpointConfig :=
  match ps with
  | [b0, b1, b2, b3, b4, b5, b6, b7, b8, b9, b10, b11, b12, b13, b14, b15] => do
    let segment ← within 0 31 b0.toNat
    let address ← address? b1
    let indexWidth ← within 0 3 b2.toNat
    let speed ← speed? b3
    let accessA ← access? b4
    let accessB ← access? b5
    let retryLimit ← within 0 7 b6.toNat
    let recovery ← recovery? b7 b8
    let weight ← within 1 8 b9.toNat
    let threshold ← within 1 63 b10.toNat
    let label ← label? b11 b12 b13 b14 b15
    pure { segment, address, indexWidth, speed, accessA, accessB, retryLimit, recovery, weight, threshold, label }
  | _ => none

/-- The four bytes of a label, most significant first. -/
def labelBytes (x : BitVec 32) : List Byte :=
  [x.extractLsb' 24 8, x.extractLsb' 16 8, x.extractLsb' 8 8, x.extractLsb' 0 8]

/-- The mode byte of a recovery. -/
def RecoveryMode.num : RecoveryMode → Nat
  | .none => 0
  | .timed => 1
  | .poll => 2

/-- The endpoint record block that a query returns (R184). -/
def recordBytes (c : EndpointConfig) : List Byte :=
  [byteOf c.segment, c.address.setWidth 8, byteOf c.indexWidth, byteOf c.speed.num, byteOf c.accessA.num,
    byteOf c.accessB.num, byteOf c.retryLimit, byteOf c.recovery.mode.num, byteOf (c.recovery.window?.getD 0),
    byteOf c.weight, byteOf c.threshold] ++
  match c.label with
  | none => [0, 0, 0, 0, 0]
  | some x => 1 :: labelBytes x

/-- The two views a request can name (R15). -/
inductive View where
  | committed
  | staging
  deriving DecidableEq, Repr

def view? (b : Byte) : Option View :=
  match b.toNat with
  | 0 => some .committed
  | 1 => some .staging
  | _ => none

/-- QUERY_ENDPOINT: handle; view (R186). -/
def queryEndpointBlock? (ps : List Byte) : Option (Handle × View) :=
  match ps with
  | [s, g, v] => do
    let h ← handle? s g
    let v ← view? v
    pure (h, v)
  | _ => none

/-- The key of a LOOKUP (R17). -/
inductive LookupKey where
  | location (segment : Nat) (address : BusAddress)
  | label (value : BitVec 32)
  deriving DecidableEq, Repr

/-- LOOKUP: view; key type; a location followed by two zero bytes, or a label (R186). -/
def lookupBlock? (ps : List Byte) : Option (View × LookupKey) :=
  match ps with
  | [v, k, b0, b1, b2, b3] => do
    let v ← view? v
    match k.toNat with
    | 0 => do
      let n ← within 0 31 b0.toNat
      let a ← address? b1
      if b2.toNat = 0 ∧ b3.toNat = 0 then pure (v, .location n a) else none
    | 1 => pure (v, .label (b0 ++ b1 ++ b2 ++ b3))
    | _ => none
  | _ => none

/-- LIST_ENDPOINTS: view; start slot (R186). -/
def listBlock? (ps : List Byte) : Option (View × Nat) :=
  match ps with
  | [v, n] => do
    let v ← view? v
    let n ← within 0 127 n.toNat
    pure (v, n)
  | _ => none

/-- QUERY_SEGMENT (bound 31) and QUERY_GROUP (bound 15): number; view (R186). -/
def numberViewBlock? (bound : Nat) (ps : List Byte) : Option (Nat × View) :=
  match ps with
  | [n, v] => do
    let n ← within 0 bound n.toNat
    let v ← view? v
    pure (n, v)
  | _ => none

/-- A request without parameters (R187). -/
def emptyBlock? (ps : List Byte) : Option Unit :=
  match ps with
  | [] => some ()
  | _ => none

/-- MODIFY_ENDPOINT: handle; endpoint record block (R184). -/
def modifyBlock? (ps : List Byte) : Option (Handle × EndpointConfig) :=
  match ps with
  | s :: g :: rest => do
    let h ← handle? s g
    let c ← recordBlock? rest
    pure (h, c)
  | _ => none

/-- RETIRE_ENDPOINT, RELEASE, QUARANTINE, CLEAR_SCORE, UNRESERVE: handle (R186). -/
def handleBlock? (ps : List Byte) : Option Handle :=
  match ps with
  | [s, g] => handle? s g
  | _ => none

/-- ADD_SEGMENT: port, mux address, channel, mux speed class (R33, R184). -/
def segmentBlock? (ps : List Byte) : Option Segment :=
  match ps with
  | [p, m, c, v] => do
    let port ← port? p
    let mux ← address? m
    let channel ← channel? c
    let speed ← speed? v
    pure { port, mux, channel, speed }
  | _ => none

/-- RETIRE_SEGMENT: a configurable segment's number; a root segment is refused (R34). -/
def retireSegmentBlock? (ps : List Byte) : Option Nat :=
  match ps with
  | [n] => within 6 31 n.toNat
  | _ => none

/-- A list of handles of two bytes each. -/
def handles? : List Byte → Option (List Handle)
  | [] => some []
  | [_] => none
  | s :: g :: rest => do
    let h ← handle? s g
    let hs ← handles? rest
    pure (h :: hs)

/-- SET_GROUP: group number; member count; the member handles in list order, no handle twice (R35, R186). -/
def setGroupBlock? (ps : List Byte) : Option (Nat × List Handle) :=
  match ps with
  | g :: n :: rest => do
    let g ← within 0 15 g.toNat
    let n ← within 0 12 n.toNat
    let hs ← handles? rest
    if hs.length = n ∧ hs.Nodup then pure (g, hs) else none
  | _ => none

/-- COMMIT: mode; presence; deadline, read only when bit 0 of presence is set (R37, R186). -/
def commitBlock? (ps : List Byte) : Option (CommitMode × Option Nat) :=
  match ps with
  | [m, presence, d0, d1] => do
    let mode ← match m.toNat with
      | 0 => some CommitMode.wait
      | 1 => some CommitMode.preempt
      | _ => none
    let present ← flag? presence
    if present then do
      let d ← within 10 10000 (numberOf d0 d1)
      pure (mode, some d)
    else pure (mode, none)
  | _ => none

/-- The operation of a TRANSACT or a GROUP_TRANSACT with the fields it needs (R47, R150). -/
structure OperationFields where
  operation : Operation
  index : Option (BitVec 24)
  length : Option Nat
  data : List Byte
  deadline : Option Nat
  deriving DecidableEq, Repr

/-- The part of the TRANSACT layout from the operation byte on (R185): presence bits 7–2 zero; the index read only
under bit 0; a length byte of 0 is an absent length; the deadline read only under bit 1; the data the rest of the
block. A READ is at most `maxRead` bytes (R47, R150). -/
def operationBlock? (maxRead : Nat) (ps : List Byte) : Option OperationFields :=
  match ps with
  | op :: presence :: i0 :: i1 :: i2 :: n :: d0 :: d1 :: data => do
    let operation ← operation? op
    if 4 ≤ presence.toNat then none
    else
      let index : Option (BitVec 24) := if presence.getLsbD 0 then some (i0 ++ i1 ++ i2) else none
      let deadline ← if presence.getLsbD 1 then (within 1 2000 (numberOf d0 d1)).map some else some none
      match operation with
      | .read =>
        if 1 ≤ n.toNat ∧ n.toNat ≤ maxRead ∧ data = [] then
          pure { operation := .read, index, length := some n.toNat, data := [], deadline }
        else none
      | .write =>
        if 1 ≤ n.toNat ∧ n.toNat ≤ 32 ∧ data.length = n.toNat then
          pure { operation := .write, index, length := some n.toNat, data := data, deadline }
        else none
      | .probe =>
        if n.toNat = 0 ∧ index = none ∧ data = [] then
          pure { operation := .probe, index := none, length := none, data := [], deadline }
        else none
  | _ => none

/-- TRANSACT: handle, then the operation (R47, R185). -/
def transactBlock? (ps : List Byte) : Option (Handle × OperationFields) :=
  match ps with
  | s :: g :: rest => do
    let h ← handle? s g
    let o ← operationBlock? 32 rest
    pure (h, o)
  | _ => none

/-- What GROUP_TRANSACT carries (R150). -/
structure GroupFields where
  group : Nat
  policy : Policy
  operation : OperationFields
  deadline : Nat
  deriving DecidableEq, Repr

/-- GROUP_TRANSACT: group, policy, then the operation, its deadline required and a READ of at most 16 bytes (R150,
R185). -/
def groupTransactBlock? (ps : List Byte) : Option GroupFields :=
  match ps with
  | g :: y :: rest => do
    let group ← within 0 15 g.toNat
    let policy ← match y.toNat with
      | 0 => some Policy.continueAll
      | 1 => some Policy.stopOnFail
      | _ => none
    let operation ← operationBlock? 16 rest
    let deadline ← operation.deadline
    pure { group, policy, operation, deadline }
  | _ => none

/-- RESERVE: handle; duration 1–10000 ms (R139, R186). -/
def reserveBlock? (ps : List Byte) : Option (Handle × Nat) :=
  match ps with
  | [s, g, d0, d1] => do
    let h ← handle? s g
    let d ← within 1 10000 (numberOf d0 d1)
    pure (h, d)
  | _ => none

/-- CONFIGURE_PORT: port; the whole port configuration (R79, R186). -/
def configurePortBlock? (ps : List Byte) : Option (Port × PortConfig) :=
  match ps with
  | [p, e, m, r, h0, h1, t, f, x] => do
    let port ← port? p
    let enable ← flag? e
    let mode ← match m.toNat with
      | 0 => some ContainmentMode.blockAll
      | 1 => some ContainmentMode.blockWrites
      | 2 => some ContainmentMode.flagOnly
      | _ => none
    let recovery ← match r.toNat with
      | 0 => some RecoveryMethod.auto
      | 1 => some RecoveryMethod.holdoff
      | 2 => some RecoveryMethod.manual
      | _ => none
    let tHold ← within 1 1000 (numberOf h0 h1)
    let lossThreshold ← within 1 15 t.toNat
    let tInh ← within 1 15 f.toNat
    let tStretch ← within 5 100 x.toNat
    pure (port, { enable, mode, recovery, tHold, lossThreshold, tInh, tStretch })
  | _ => none

/-- The eight configuration bytes that follow the port byte (R186). -/
def portConfigBytes (c : PortConfig) : List Byte :=
  [byteOf (if c.enable then 1 else 0), byteOf c.mode.num, byteOf c.recovery.num] ++ wordOf c.tHold ++
    [byteOf c.lossThreshold, byteOf c.tInh, byteOf c.tStretch]

/-- QUERY_PORT, CLEAR_BUS, RESUME_PORT: port (R186). -/
def portBlock? (ps : List Byte) : Option Port :=
  match ps with
  | [p] => port? p
  | _ => none

/-- CONFIGURE_LINK: default deadline; alert mask, bits 15–12 zero; response-alert enable (R178, R185). -/
def configureLinkBlock? (ps : List Byte) : Option LinkConfig :=
  match ps with
  | [d0, d1, m0, m1, e] => do
    let defaultDeadline ← within 1 2000 (numberOf d0 d1)
    let responseAlert ← flag? e
    if m0.toNat < 16 then
      pure { defaultDeadline, alertMask := (m0 ++ m1).setWidth 12, responseAlert }
    else none
  | _ => none

/-- CONFIGURE_DEVICE: tSESS 100–60000 ms; default tCMT 10–10000 ms (R179, R186). -/
def configureDeviceBlock? (ps : List Byte) : Option (Nat × Nat) :=
  match ps with
  | [s0, s1, c0, c1] => do
    let tSess ← within 100 60000 (numberOf s0 s1)
    let tCmt ← within 10 10000 (numberOf c0 c1)
    pure (tSess, tCmt)
  | _ => none

end Sys2Proof.Machine
end

