-- ==== Sys2Proof/Machine/Fanout.lean ====
section
/-! DEFINITION. The group fan-out and the hand-out of slots (R54, R152 to R162): recording outcomes, the stop
policy, the report, the issue pass, and the continued issue of a WAITING member. -/
namespace Sys2Proof.Machine

/-! ### Contexts -/

/-- The port whose marker a member holds (R152). -/
def MemberCondition.marker? : MemberCondition → Option Port
  | .pending => none
  | .waiting p => some p
  | .inFlight p => some p
  | .finished _ _ => none

/-- The member holds an outcome (R152). -/
def MemberCondition.isDone : MemberCondition → Bool
  | .finished _ _ => true
  | _ => false

/-- The context has a marker set on a port (R152). -/
def Context.marked (x : Context) (p : Port) : Bool :=
  x.members.any fun m => decide (m.condition.marker? = some p)

/-- The context with the condition of one position replaced. -/
def Context.setMember (x : Context) (position : Nat) (condition : MemberCondition) : Context :=
  { x with members := x.members.modify position fun m => { m with condition := condition } }

/-- A PENDING or WAITING member given an outcome without a transaction; others are left as they are. -/
def Member.endUnissued (outcome : Status) (m : Member) : Member :=
  match m.condition with
  | .pending => { m with condition := .finished outcome [] }
  | .waiting _ => { m with condition := .finished outcome [] }
  | .inFlight _ => m
  | .finished _ _ => m

/-- The context with every PENDING and WAITING member given an outcome. -/
def Context.endUnissued (outcome : Status) (x : Context) : Context :=
  { x with members := x.members.map (Member.endUnissued outcome) }

/-- Every member holds an outcome. -/
def Context.complete (x : Context) : Bool :=
  x.members.all fun m => m.condition.isDone

/-- The state with a context replaced. -/
def State.setContext (s : State) (c : Nat) (x : Context) : State :=
  { s with contexts := s.contexts.put c x }

/-- The members of a context leave the waiting list without a slot (R54). -/
def dropWaiting (c : Nat) (s : State) : State :=
  { s with waiting := s.waiting.filter fun w => decide (w.1 ≠ c) }

/-- The condition of one member replaced. -/
def setMember (c position : Nat) (condition : MemberCondition) (s : State) : State :=
  match s.contexts.find c with
  | some x => s.setContext c (x.setMember position condition)
  | none => s

/-- An outcome other than OK sets the stop flag under STOP_ON_FAIL, once (R159). -/
def Context.stops (x : Context) (outcome : Status) : Bool :=
  decide (x.policy = .stopOnFail) && !x.stopFlag && decide (outcome ≠ .ok)

/-- A member's outcome is recorded in its context, and the stop policy taken (R158, R159): when the flag is set,
PENDING and WAITING members are NOT_ATTEMPTED and the latter leave the waiting list. -/
def recordOutcome (c position : Nat) (outcome : Status) (data : List Byte) (s : State) : State :=
  match s.contexts.find c with
  | none => s
  | some x =>
    let y := x.setMember position (.finished outcome data)
    if x.stops outcome then
      dropWaiting c (s.setContext c { (y.endUnissued .notAttempted) with stopFlag := true })
    else s.setContext c y

/-- An entry of the report (R162, R185). -/
def Member.reportEntry (m : Member) : List Byte :=
  match m.condition with
  | .finished outcome data => handleBytes m.handle ++ [outcome.byte, byteOf data.length] ++ data
  | _ => []

/-- The member's outcome is OK. -/
def Member.isOk (m : Member) : Bool :=
  match m.condition with
  | .finished .ok _ => true
  | _ => false

/-- The payload of the report (R162, R185). -/
def Context.report (x : Context) (c : Nat) (reportEpoch : BitVec 16) : List Byte :=
  [byteOf x.group, byteOf c, byteOf x.operation.num] ++ wordOf x.epoch.toNat ++ wordOf reportEpoch.toNat ++
    [byteOf x.members.length, byteOf (x.members.countP Member.isOk)] ++ x.members.flatMap Member.reportEntry

/-- When the last member holds an outcome the report is delivered and the context is freed (R162). -/
def closeIfDone (c : Nat) (s : State) : State :=
  match s.contexts.find c with
  | none => s
  | some x =>
    if x.complete then
      { respond x.link x.tag .ok (x.report c s.epoch) s with contexts := s.contexts.remove c }
    else s

/-! ### Issue -/

/-- The checks of a member's issue after its handle has resolved: the index (R154), then access, runtime state,
reservation, commit-pending and port (R155). The outcome of the first that fails. -/
def memberRefusal (s : State) (x : Context) (h : Handle) (r : Record) : Option Status :=
  let p := s.portOf r.config
  if x.operation ≠ .probe ∧ r.config.indexWidth ≠ 0 ∧ indexFits r.config.indexWidth x.index = false then
    some .badParameter
  else if (r.config.access x.link).permits x.operation = false then some .accessDenied
  else if r.runtime.health.isActive = false then some .skippedQuarantined
  else if s.reservedAgainst h x.link then some .skippedReserved
  else if s.commitPending h then some .skippedCommit
  else if (s.engine p).config.enable = false ∨ s.portPermits p x.operation = false then some .skippedPort
  else none

/-- The index a member's transaction carries (R157): none for width 0 and for PROBE. -/
def memberIndex (x : Context) (r : Record) : Option (BitVec 24) :=
  if r.config.indexWidth = 0 ∨ x.operation = .probe then none else x.index

/-- A member is placed (R157) and is IN_FLIGHT. -/
def placeMember (c position : Nat) (x : Context) (h : Handle) (r : Record) (s : State) : State :=
  setMember c position (.inFlight (s.portOf r.config))
    (place (.member c position) x.link h r.config x.operation (memberIndex x r) x.length x.data x.deadline s)

/-- A member of the context holds DEADLINE_EXPIRED. -/
def Context.expired (x : Context) : Bool :=
  x.members.any fun m => match m.condition with
    | .finished .deadlineExpired _ => true
    | _ => false

/-- The instant of a context's deadline has passed: the clock is beyond it, or stands at it and the deadline has acted
on a member (R157, R161; log 16). -/
def Context.overdue (x : Context) (now : Time) : Bool :=
  decide (x.deadline < now) || (decide (x.deadline = now) && x.expired)

/-- A member that passed its checks claims a slot: placed, or WAITING at the end of the waiting list (R156). One that
is placed after the instant of its deadline is removed at once with DEADLINE_EXPIRED (R157). -/
def claimSlot (c position : Nat) (x : Context) (h : Handle) (r : Record) (s : State) : State :=
  if s.slotOpen x.link then
    if x.overdue s.now then recordOutcome c position .deadlineExpired [] s else placeMember c position x h r s
  else
    let t := setMember c position (.waiting (s.portOf r.config)) s
    { t with waiting := t.waiting ++ [(c, position)] }

/-- One position of an issue pass (R153). A member whose port has a marker stays PENDING; one that fails a check gets
its outcome at once; one that passes claims a slot. -/
def issueMember (c position : Nat) (s : State) : State :=
  match s.contexts.find c with
  | none => s
  | some x =>
    match x.members[position]? with
    | some { handle := h, condition := .pending } =>
      match s.record? h with
      | none => recordOutcome c position .staleHandle [] s
      | some r =>
        if x.marked (s.portOf r.config) then s
        else match memberRefusal s x h r with
          | some outcome => recordOutcome c position outcome [] s
          | none => claimSlot c position x h r s
    | _ => s

/-- An issue pass (R153): the walk through the member list from the first position to the last. A report that the
pass completes is delivered at its end (R151, R162). -/
def issuePass (c : Nat) (s : State) : State :=
  match s.contexts.find c with
  | none => s
  | some x => closeIfDone c ((List.range x.members.length).foldl (fun t i => issueMember c i t) s)

/-! ### The hand-out of slots -/

/-- The continued issue of a WAITING member at the moment it is handed a slot (R156). The second part of the answer
says whether an issue pass of its context follows the hand-out. A member that is handed its slot when its context's
deadline has come is placed and removed with DEADLINE_EXPIRED at once, and its slot is FREE again (R157, R161;
log 16). -/
def continueIssue (c position : Nat) (s : State) : State × Bool :=
  match s.contexts.find c with
  | none => (s, false)
  | some x =>
    match x.members[position]? with
    | some { handle := h, condition := .waiting p } =>
      match s.record? h with
      | none => (recordOutcome c position .staleHandle [] s, true)
      | some r =>
        if s.portOf r.config ≠ p then (setMember c position .pending s, true)
        else match memberRefusal s x h r with
          | some outcome => (recordOutcome c position outcome [] s, true)
          | none =>
            if x.deadline ≤ s.now then (recordOutcome c position .deadlineExpired [] s, true)
            else (placeMember c position x h r s, false)
    | _ => (s, false)

/-- One entry of the waiting list in a hand-out (R54): passed over where no slot is FREE or its issuing link holds
32; otherwise it leaves the list and its issue continues. The second part gathers the contexts whose passes follow,
in the order of the hand-outs. -/
def handOutOne (acc : State × List Nat) (w : Nat × Nat) : State × List Nat :=
  let (s, passes) := acc
  if w ∈ s.waiting then
    match s.contexts.find w.1 with
    | none => (s, passes)
    | some x =>
      if s.slotOpen x.link then
        let (t, pass) := continueIssue w.1 w.2 { s with waiting := s.waiting.erase w }
        (t, if pass then passes ++ [w.1] else passes)
      else (s, passes)
  else (s, passes)

/-- The hand-out of FREE slots to waiting members, from the head of the list toward its tail (R54), then the issue
passes it leads to, in the order of the hand-outs (R59, R156). -/
def handOut (s : State) : State :=
  let (t, passes) := s.waiting.foldl handOutOne (s, [])
  passes.foldl (fun u c => issuePass c u) t

/-- A slot becomes FREE: the attributed count and the record's in-flight count fall with it, and the pool offers it
to waiting members (R54, R59). -/
def freeSlot (slot : Nat) (s : State) : State :=
  handOut { s with pool := s.pool.filter fun t => decide (t.slot ≠ slot) }

end Sys2Proof.Machine
end

