-- ==== Sys2Proof/Machine/Bus.lean ====
section
/-! DEFINITION. What a port engine puts on its bus (R71, R72, R85 to R88, R95, R101), the speed of each phase, and
how the lines of a port are seen by its containment unit (R86, R123). -/
namespace Sys2Proof.Machine

/-! ### Speed classes -/

/-- The clock low period of a speed class, in ticks (R85). -/
def SpeedClass.lowPeriod : SpeedClass → Time
  | .standard => 50
  | .fast => 13
  | .fastPlus => 5

/-- The clock high period of a speed class, in ticks (R85). -/
def SpeedClass.highPeriod : SpeedClass → Time
  | .standard => 50
  | .fast => 12
  | .fastPlus => 5

/-- The bus-free gap of a speed class, in ticks (R86). -/
def SpeedClass.gap : SpeedClass → Time
  | .standard => 50
  | .fast => 20
  | .fastPlus => 10

/-- The slower of two speed classes (R72). -/
def SpeedClass.slower (x y : SpeedClass) : SpeedClass :=
  if x.num ≤ y.num then x else y

/-! ### Shapes -/

/-- An address byte: the bus address times two, plus 0 for write and 1 for read (R85). -/
def addressByte (a : BusAddress) (read : Bool) : Byte :=
  a ++ BitVec.ofBool read

/-- The index bytes of a width, most significant first (R87). -/
def indexBytes (width : Nat) (index : Option (BitVec 24)) : List Byte :=
  let i := index.getD 0
  match width with
  | 0 => []
  | 1 => [i.extractLsb' 0 8]
  | 2 => [i.extractLsb' 8 8, i.extractLsb' 0 8]
  | _ => [i.extractLsb' 16 8, i.extractLsb' 8 8, i.extractLsb' 0 8]

/-- The transfer of a transaction (R87). -/
def transferShape (t : Txn) : List BusItem :=
  let address := t.snapshot.address
  let index := (indexBytes t.snapshot.indexWidth t.index).map .send
  match t.operation with
  | .probe => [.start, .send (addressByte address false), .stop]
  | .write => [.start, .send (addressByte address false)] ++ index ++ t.data.map .send ++ [.stop]
  | .read =>
    if t.snapshot.indexWidth = 0 then
      [.start, .send (addressByte address true), .receive (t.length.getD 0), .stop]
    else
      [.start, .send (addressByte address false)] ++ index ++
        [.repeatedStart, .send (addressByte address true), .receive (t.length.getD 0), .stop]

/-- A transfer sends a byte after an acknowledged address byte: an index byte, or a data byte of a WRITE. Only such
a byte can bring DATA_NACK (R90). -/
def sendsBytes (t : Txn) : Bool :=
  match t.operation with
  | .probe => false
  | .write => true
  | .read => decide (t.snapshot.indexWidth ≠ 0)

/-- The recovery poll (R101). -/
def pollShape (address : BusAddress) : List BusItem :=
  [.start, .send (addressByte address false), .stop]

/-- The mask of a channel has its bit alone set (R71). -/
def channelMask (c : BitVec 3) : Byte :=
  1#8 <<< c.toNat

/-- The mask byte of a selection write (R71). -/
def SelectionWrite.mask (w : SelectionWrite) : Byte :=
  match w.channel with
  | none => 0
  | some c => channelMask c

/-- A selection write on the bus (R72). -/
def SelectionWrite.shape (w : SelectionWrite) : List BusItem :=
  [.start, .send (addressByte w.mux false), .send w.mask, .stop]

/-- The bus clear: nine pulses at most, then STOP (R95). -/
def clearShape : List BusItem :=
  [.pulses 9, .stop]

/-! ### Selection -/

/-- Insertion into a strictly ascending list of addresses. -/
def insertAddress (a : BusAddress) : List BusAddress → List BusAddress
  | [] => [a]
  | b :: rest => if a.toNat < b.toNat then a :: b :: rest else if a = b then b :: rest else b :: insertAddress a rest

/-- The mux set of a port: the distinct mux addresses of its committed segments (R11), in ascending order. -/
def State.muxSet (s : State) (p : Port) : List BusAddress :=
  ((s.segments.filter fun e => decide (e.2.port = p)).map fun e => e.2.mux).foldr insertAddress []

/-- Zero writes to several multiplexers: after the last one is acknowledged nothing is open; the ones before leave
the open channel UNKNOWN (R70). -/
def zeroWrites : List BusAddress → List SelectionWrite
  | [] => []
  | [a] => [{ mux := a, channel := none, opens := .none }]
  | a :: rest => { mux := a, channel := none, opens := .unknown } :: zeroWrites rest

/-- The write that opens a channel (R70, R71). -/
def maskWrite (m : MuxPath) : SelectionWrite :=
  { mux := m.mux, channel := some m.channel, opens := .channel m.mux m.channel }

/-- The writes of a selection (R71), from the open channel, the path of the snapshot and the port's mux set. -/
def selectionWrites (openChannel : OpenChannel) (path : Option MuxPath) (muxSet : List BusAddress) :
    List SelectionWrite :=
  match path with
  | none => []
  | some m =>
    match openChannel with
    | .none => [maskWrite m]
    | .unknown => zeroWrites muxSet ++ [maskWrite m]
    | .channel mux c =>
      if mux = m.mux then
        if c = m.channel then [] else [maskWrite m]
      else zeroWrites [mux] ++ [maskWrite m]

/-- The speed of a selection write (R72): the snapshot's mux speed class for the snapshot's multiplexer; for any
other, the slowest among the committed segments of the port behind it, STANDARD where there is none. -/
def State.writeSpeed (s : State) (p : Port) (path : Option MuxPath) (mux : BusAddress) : SpeedClass :=
  if path.any fun m => decide (m.mux = mux) then (path.map MuxPath.speed).getD .standard
  else
    match (s.segments.filter fun e => decide (e.2.port = p ∧ e.2.mux = mux)).map fun e => e.2.speed with
    | [] => .standard
    | v :: rest => rest.foldl SpeedClass.slower v

/-- The next phase of a transaction's work, as it would begin now (R85, R86): nothing for a bus clear, which begins
with its work (R95). The speed of a selection write is read from the committed view when its phase begins: DESIGN CHOICE
(log 37). -/
def State.nextPhase? (s : State) (p : Port) : Option Phase :=
  let e := s.engine p
  match s.activeTxn? p, e.work with
  | some t, some (.selecting _ (w :: _)) =>
    some { items := w.shape, speed := s.writeSpeed p t.snapshot.path w.mux, stretch := e.config.tStretch }
  | some t, some (.polling _) =>
    some { items := pollShape t.snapshot.address, speed := t.snapshot.speed, stretch := e.config.tStretch }
  | some t, some (.transferring _) =>
    some { items := transferShape t, speed := t.snapshot.speed, stretch := e.config.tStretch }
  | _, _ => none

/-- A bus clear, begun with the stretch limit as configured (R95). -/
def PortConfig.clearPhase (c : PortConfig) : Phase :=
  { items := clearShape, speed := .standard, stretch := c.tStretch }

/-! ### The end of a bus clear -/

/-- The pulses of step 4 of a bus clear (R95), at most so many: does the engine come to step 5? -/
def pulsesFree : Nat → List PulseReading → Bool
  | 0, _ => false
  | _, [] => false
  | _, .clockHeld :: _ => false
  | _, .dataHigh :: _ => true
  | n + 1, .dataLow :: rest => pulsesFree n rest

/-- The result of a bus clear is FREE (R95). -/
def clearFree (r : ClearReading) : Bool :=
  r.clockRises && (r.dataHigh || pulsesFree 9 r.pulses) && r.linesHigh

/-- In the pulses of step 4, at most so many, the clock line is held in one (R95). -/
def pulsesHeld : Nat → List PulseReading → Bool
  | 0, _ => false
  | _, [] => false
  | _, .clockHeld :: _ => true
  | _, .dataHigh :: _ => false
  | n + 1, .dataLow :: rest => pulsesHeld n rest

/-- The levels of the clock and the data line at the end of a clear that is HELD, from what the engine has read (R95):
never both high. A clock line that does not rise leaves the data line as it was seen; a clock line held in a pulse leaves
both low; after the ninth pulse, and after the STOP, the data line is the one that is low: DESIGN CHOICE (log 39). -/
def heldLevels (r : ClearReading) (sda : Bool) : Bool × Bool :=
  if !r.clockRises then (false, sda)
  else (r.dataHigh || !pulsesHeld 9 r.pulses, false)

/-! ### Lines -/

/-- The free-line measurement at a level of the lines (R123): it counts while both lines are high, returns to 0 while
either is low, and is not started by them. -/
def FreeLine.seen (f : FreeLine) (bothHigh : Bool) (now : Time) : FreeLine :=
  match f, bothHigh with
  | .stopped, _ => .stopped
  | .high since, true => .high since
  | .low, true => .high now
  | _, false => .low

/-- The lines at new levels: a line that changes does so now. -/
def Lines.put (x : Lines) (scl sda otherMaster : Bool) (now : Time) : Lines :=
  { scl := scl, sda := sda, sclSince := if x.scl = scl then x.sclSince else now,
    sdaSince := if x.sda = sda then x.sdaSince else now, otherMaster := otherMaster }

/-- The lines of a port take levels; the containment unit observes them (R123). `otherMaster` says whether another
master's transfer is then in progress (R86). -/
def putLines (p : Port) (scl sda otherMaster : Bool) (s : State) : State :=
  let u := s.unit p
  (s.setLine p ((s.line p).put scl sda otherMaster s.now)).setUnit p
    { u with freeLine := u.freeLine.seen (scl && sda) s.now }

/-- A phase of the engine pulls the lines low and ends with both high: the measurement counts again from then
(R85, R123), and so does the bus-free gap (R86). -/
def releaseLines (p : Port) (s : State) : State :=
  putLines p true true false (putLines p true false false s)

/-- The lines at the end of a bus clear (R95, R123): FREE ends with the STOP and both lines high, and the measurement
counts from then; HELD leaves a line low, and the measurement at 0. -/
def clearedLines (p : Port) (r : ClearReading) (s : State) : State :=
  let levels := heldLevels r (s.line p).sda
  if clearFree r then releaseLines p s else putLines p levels.1 levels.2 (s.line p).otherMaster s

/-- When the hold that a limit counts began, for this engine: when the lines came to the levels that are held, or when
the engine came to its work where they were there before. A hold that has not been seen begins as its limit is reported
(R92, R93; log 36). -/
def Engine.heldSince (e : Engine) (held : Bool) (changed now : Time) : Time :=
  if held then max e.since changed else now

/-- The stretch limit, in ms, that a hold of the clock line meets: that of the phase under way, and the port's while the
engine waits for a free bus (R79, R92, R95). -/
def Engine.stretchLimit (e : Engine) : Nat :=
  (e.phase.map Phase.stretch).getD e.config.tStretch

/-- When a hold of the clock line reaches the stretch limit (R92). -/
def State.stretchExpiry (s : State) (p : Port) : Time :=
  (s.engine p).heldSince (!(s.line p).scl) (s.line p).sclSince s.now + Config.ms (s.engine p).stretchLimit

/-- When a hold of the data line with the clock line high reaches tSDA (R93). Time with the clock line low does not
count: DESIGN CHOICE, a hold begins anew when the clock line has risen (log 36). -/
def State.sdaExpiry (s : State) (p : Port) : Time :=
  (s.engine p).heldSince ((s.line p).scl && !(s.line p).sda) (s.line p).since s.now + Config.ms Config.tSda

/-- The free-line measurement starts afresh (R123). -/
def restartFreeLine (p : Port) (s : State) : State :=
  let x := s.line p
  s.setUnit p { s.unit p with freeLine := if x.scl && x.sda then .high s.now else .low }

end Sys2Proof.Machine
end

