-- ==== Sys2Proof/Machine/Arbiter.lean ====
section
/-! DEFINITION. Eligibility, the arbiter, and the start of a transaction's work (R64 to R71). -/
namespace Sys2Proof.Machine

/-! ### Engine states -/

/-- The engine is IDLE: enabled, with no work in hand (R64; log 9). -/
def Engine.idle (e : Engine) : Bool :=
  e.config.enable && e.work.isNone

/-- The number of the state that a work names, CLEARING included (R186). -/
def Work.stateNum : Work → Nat
  | .selecting _ _ => 2
  | .polling _ => 3
  | .transferring _ => 4
  | .clearing _ => 5

/-- The number of the engine state (R64, R186; log 9). -/
def Engine.stateNum (e : Engine) : Nat :=
  match e.work with
  | none => if e.config.enable then 1 else 0
  | some w => if e.config.enable then w.stateNum else 6

/-- The number of the phase of DISABLING, 0 in every other state (R64, R186). -/
def Engine.phaseNum (e : Engine) : Nat :=
  match e.work with
  | none => 0
  | some w => if e.config.enable then 0 else w.stateNum

/-! ### Eligibility -/

/-- The class of an origin (R68). -/
def Origin.originClass : Origin → OriginClass
  | .transact .a _ => .linkA
  | .transact .b _ => .linkB
  | .releaseProbe .a _ => .linkA
  | .releaseProbe .b _ => .linkB
  | .member _ _ => .group

/-- Two transactions have the same origin (R67): the same link, or the same group context number. -/
def Origin.same : Origin → Origin → Bool
  | .member c _, .member d _ => decide (c = d)
  | x, y => decide (x.originClass ≠ .group) && decide (x.originClass = y.originClass)

/-- The write-busy field holds back the record's transactions: a TIMED form, or a POLL form in poll-wait (R67). -/
def WriteBusy.holdsBack : WriteBusy → Bool
  | .timed _ => true
  | .poll _ wait => wait.isSome

/-- The recovery condition of eligibility (R67). -/
def State.recovered (s : State) (h : Handle) : Bool :=
  match (s.record? h).bind fun r => r.runtime.writeBusy with
  | none => true
  | some w => !w.holdsBack

/-- A transaction of a port queue is eligible (R67). -/
def State.eligible (s : State) (t : Txn) : Bool :=
  let p := t.snapshot.port
  let older := (s.queue p).takeWhile fun u => decide (u ≠ t)
  !(older.any fun u => u.origin.same t.origin && decide (u.handle = t.handle)) && s.recovered t.handle &&
    s.portPermits p t.operation

/-- The classes in the order in which the arbiter examines them, from the class after the pointer (R68). -/
def OriginClass.order : OriginClass → List OriginClass
  | .linkA => [.linkB, .group, .linkA]
  | .linkB => [.group, .linkA, .linkB]
  | .group => [.linkA, .linkB, .group]

/-- The arbiter's choice (R68): the oldest eligible transaction of the first class that has one. -/
def State.choice (s : State) (p : Port) : Option Txn :=
  let eligible := (s.queue p).filter s.eligible
  (s.engine p).pointer.order.findSome? fun c => eligible.find? fun t => decide (t.origin.originClass = c)

/-! ### The start of work -/

/-- The record is write-busy with form POLL (R65). -/
def State.pollBusy (s : State) (h : Handle) : Bool :=
  match (s.record? h).bind fun r => r.runtime.writeBusy with
  | some (.poll _ _) => true
  | _ => false

/-- The step after selection: POLLING when the record is write-busy with form POLL, and TRANSFERRING otherwise
(R65). -/
def State.afterSelection (s : State) (t : Txn) : Work :=
  if s.pollBusy t.handle then .polling t.slot else .transferring t.slot

/-- The first step of a chosen transaction (R65, R71). -/
def State.firstWork (s : State) (t : Txn) : Work :=
  let p := t.snapshot.port
  match selectionWrites (s.engine p).openChannel t.snapshot.path (s.muxSet p) with
  | [] => s.afterSelection t
  | writes => .selecting t.slot writes

/-- The chosen transaction becomes ACTIVE, and the pointer moves to its class (R68). -/
def startWork (p : Port) (t : Txn) (s : State) : State :=
  s.setEngine p { s.engine p with
    work := some (s.firstWork t), phase := none, since := s.now, abortPending := false,
    pointer := t.origin.originClass }

/-- A run of the arbiter of an IDLE engine (R68, R69). -/
def runArbiter (p : Port) (s : State) : State :=
  if (s.engine p).idle then
    match s.choice p with
    | some t => startWork p t s
    | none => s
  else s

/-- What R69 names has reached the engine of a port in a command: it was not IDLE, its queue changed, its containment
changed state, or its mode was changed. -/
def arbiterDue (before after : State) (p : Port) : Bool :=
  !(before.engine p).idle || decide (before.queue p ≠ after.queue p) ||
    decide ((before.unit p).state ≠ (after.unit p).state) ||
    decide ((before.engine p).config.mode ≠ (after.engine p).config.mode)

/-- The end of a command: each IDLE engine that an event of R69 reached runs its arbiter once, in the order of the
ports (R57, R59, R69; log 11). `told` names the ports on which a write-busy form or a poll-wait has ended. -/
def settle (told : List Port) (before s : State) : State :=
  Port.all.foldl (fun t p => if decide (p ∈ told) || arbiterDue before s p then runArbiter p t else t) s

end Sys2Proof.Machine
end

