-- ==== Sys2Proof/Machine/Containment.lean ====
section
/-! DEFINITION. The containment units: causes joining and leaving, the states, and the loss counter (R122 to R130). -/
namespace Sys2Proof.Machine

/-- The containment state of a port is replaced. -/
def putContainment (p : Port) (state : ContainmentState) (s : State) : State :=
  s.setUnit p { s.unit p with state := state }

/-- The state becomes CLEAR, and both links gain PORT_CLEARED (R127, R130). -/
def clearPort (p : Port) (s : State) : State :=
  raiseBoth .portCleared (.port p) (putContainment p .clear s)

/-- A cause joins the set where it is absent: PORT_HELD on both links, and HELD, in which no holdoff timer runs (R122,
R127). -/
def joinCause (p : Port) (c : Cause) (s : State) : State :=
  let u := s.unit p
  if u.causes.has c then s
  else raiseBoth .portHeld (.port p) (s.setUnit p { u with causes := u.causes.put c true, state := .held })

/-- The last cause has left: by the recovery method, as it stands now (R127). -/
def recover (p : Port) (s : State) : State :=
  let g := (s.engine p).config
  match g.recovery with
  | .auto => clearPort p s
  | .holdoff => putContainment p (.holdoff (s.after g.tHold)) s
  | .manual => putContainment p .awaitResume s

/-- A cause leaves the set (R122, R127). -/
def leaveCause (p : Port) (c : Cause) (s : State) : State :=
  let u := s.unit p
  if u.causes.has c then
    let causes := u.causes.put c false
    let t := s.setUnit p { u with causes := causes }
    if causes.isEmpty then recover p t else t
  else s

/-- STUCK is reported by the engine (R94, R123). -/
def reportStuck (p : Port) (s : State) : State :=
  restartFreeLine p (joinCause p .stuck s)

/-- The arbitration-loss counter has reached the threshold (R125). -/
def joinArbitrationIfDue (p : Port) (s : State) : State :=
  if (s.engine p).config.lossThreshold ≤ (s.unit p).losses then joinCause p .arbitration s else s

/-- A loss of arbitration is reported (R124, R125). -/
def reportLoss (p : Port) (s : State) : State :=
  let u := s.unit p
  joinArbitrationIfDue p
    (s.setUnit p { u with losses := min (u.losses + 1) Config.lossCounterMax, decay := some (s.after Config.tDecay) })

end Sys2Proof.Machine
end

