-- ==== Sys2Proof/Machine/Completion.lean ====
section
/-! DEFINITION. How a transaction ends (R57 to R61): the health report, delivery, removal from a queue, completion;
quarantine entry (R109); and what a record coming to rest leads to, the commit point (R42, R43, R108). -/
namespace Sys2Proof.Machine

/-! ### Health -/

/-- Outcomes that count against a record (R97). -/
def Status.counts : Status → Bool
  | .addressNack => true
  | .dataNack => true
  | .busStuck => true
  | _ => false

/-- The fault score after an outcome (R97). -/
def scoreAfter (weight score : Nat) (outcome : Status) : Nat :=
  if outcome = .ok then score - 1
  else if outcome.counts then min (score + weight) Config.scoreMax
  else score

/-- The write-busy field after the completion of a transaction (R99): an OK WRITE starts the recovery that its
snapshot's mode and the committed window give. -/
def writeBusyAfter (s : State) (t : Txn) (r : Record) (outcome : Status) : Option WriteBusy :=
  if t.operation = .write ∧ outcome = .ok then
    match t.snapshot.recovery, r.config.recovery.window? with
    | .timed, some w => some (.timed (s.after w))
    | .poll, some w => some (.poll (s.after w) none)
    | _, _ => r.runtime.writeBusy
  else r.runtime.writeBusy

/-- A PROBING record returns to QUARANTINED with its cause kept (R24, R57, R115); other states stay. -/
def Health.unprobed : Health → Health
  | .probing c => .quarantined c
  | h => h

/-- The transaction is a release probe (R53). -/
def Origin.isProbe : Origin → Bool
  | .releaseProbe _ _ => true
  | _ => false

/-- The runtime part after the health report of an ACTIVE transaction (R97, R98, R99), or, for a release probe, after
the release handling (R114, R115). -/
def reported (s : State) (t : Txn) (outcome : Status) (r : Record) : Runtime :=
  if t.origin.isProbe then
    if outcome = .ok then { r.runtime with health := .active, score := 0 }
    else { r.runtime with health := r.runtime.health.unprobed }
  else
    { r.runtime with
      score := scoreAfter r.config.weight r.runtime.score outcome, writeBusy := writeBusyAfter s t r outcome }

/-- The health report: step 1 of the completion of an ACTIVE transaction (R59). -/
def reportHealth (t : Txn) (outcome : Status) (s : State) : State :=
  match s.record? t.handle with
  | some r => s.setRuntime t.handle (reported s t outcome r)
  | none => s

/-- The report of an outcome leads to quarantine entry with cause BUDGET (R107). -/
def entryDue (s : State) (t : Txn) (outcome : Status) : Bool :=
  match s.record? t.handle with
  | some r => r.runtime.health.isActive && !t.origin.isProbe && outcome.counts &&
      decide (r.config.threshold ≤ scoreAfter r.config.weight r.runtime.score outcome)
  | none => false

/-! ### Delivery -/

/-- The payload of a TRANSACT or RELEASE response (R60, R185). -/
def Txn.payload (t : Txn) (data : List Byte) : List Byte :=
  wordOf t.epoch.toNat ++ [byteOf t.retries, byteOf t.losses] ++ data

/-- The bytes delivered with an outcome: those of an OK READ alone (R60). -/
def Txn.dataFor (t : Txn) (outcome : Status) (data : List Byte) : List Byte :=
  if t.operation = .read ∧ outcome = .ok then data else []

/-- The delivery of an outcome to the origin of a transaction that is no orphan (R60, R114, R115, R158). -/
def deliverTo (t : Txn) (outcome : Status) (data : List Byte) (s : State) : State :=
  match t.origin with
  | .transact l tag => respond l tag outcome (t.payload (t.dataFor outcome data)) s
  | .releaseProbe l tag =>
    let u := respond l tag outcome (t.payload []) s
    if outcome = .ok then raise l.other .quarantineReleased (.handle t.handle) u else u
  | .member c position => issuePass c (recordOutcome c position outcome (t.dataFor outcome data) s)

/-- Delivery (R60). An orphan delivers nothing (R61); after an OK orphan probe both links gain QUARANTINE_RELEASED
(R116). -/
def deliver (t : Txn) (outcome : Status) (data : List Byte) (s : State) : State :=
  if t.orphan then
    if t.origin.isProbe ∧ outcome = .ok then raiseBoth .quarantineReleased (.handle t.handle) s else s
  else deliverTo t outcome data s

/-! ### Removal from a queue -/

/-- The record of a removed release probe returns to QUARANTINED (R57). -/
def unprobe (h : Handle) (s : State) : State :=
  match s.record? h with
  | some r => s.setRuntime h { r.runtime with health := r.runtime.health.unprobed }
  | none => s

/-- A QUEUED transaction is removed from its port queue (R57, R59): no health report; the in-flight count falls, the
slot is freed and offered on, and the outcome is delivered, or nothing where the removal is silent. -/
def removeQueued (t : Txn) (outcome : Option Status) (s : State) : State :=
  let freed := freeSlot t.slot (if t.origin.isProbe then unprobe t.handle s else s)
  match outcome with
  | some o => deliver t o [] freed
  | none => freed

/-- Several removals of one step, in the order of the list (R57). One that an earlier removal of the step has already
removed is gone. -/
def removeAll (ts : List Txn) (outcome : Option Status) (s : State) : State :=
  ts.foldl (fun u t => if t ∈ u.pool then removeQueued t outcome u else u) s

/-! ### Quarantine entry -/

/-- The QUEUED transactions that target a record, from head to tail (R109). -/
def State.queuedOn (s : State) (h : Handle) : List Txn :=
  s.pool.filter fun t => decide (t.handle = h) && !s.isActive t

/-- The record's runtime state becomes QUARANTINED with a cause (R109). -/
def setQuarantined (h : Handle) (cause : QuarantineCause) (s : State) : State :=
  match s.record? h with
  | some r => s.setRuntime h { r.runtime with health := .quarantined cause }
  | none => s

/-- A quarantine entry (R109). The examination of the record (R42) follows it. -/
def quarantineEntry (h : Handle) (cause : QuarantineCause) (s : State) : State :=
  let quarantined := setQuarantined h cause s
  raiseBoth .quarantineEntered (.handle h)
    (revokeReservation h (removeAll (quarantined.queuedOn h) (some .cancelledQuarantine) quarantined))

/-! ### The commit point -/

/-- The configuration leaves the route of a record as it was: segment and bus address (R38). -/
def EndpointConfig.sameRoute (x y : EndpointConfig) : Bool :=
  decide (x.segment = y.segment ∧ x.address = y.address)

/-- The committed record of a slot after the commit point (R7, R43): its runtime part is kept, or fresh for a new or
route-changed record. -/
def State.committedRecord (s : State) (slot : Nat) (cfg : EndpointConfig) : Record :=
  match s.records.find slot with
  | some r => { config := cfg, runtime := if r.config.sameRoute cfg then r.runtime else Runtime.fresh }
  | none => { config := cfg, runtime := Runtime.fresh }

/-- The slots that are LIVE in the committed view and FREE in a staging view, ascending (R38). -/
def State.retiring (s : State) (g : Configuration) : List Nat :=
  (s.records.map Prod.fst).filter fun n => (g.endpoints.find n).isNone

/-- The slots that are LIVE in a staging view and FREE in the committed view, ascending. -/
def State.added (s : State) (g : Configuration) : List Nat :=
  (g.endpoints.map Prod.fst).filter fun n => (s.records.find n).isNone

/-- The slots LIVE in both views whose segment or bus address differs, ascending (R38). -/
def State.rerouted (s : State) (g : Configuration) : List Nat :=
  (s.records.filter fun e => (g.endpoints.find e.1).any fun c => !e.2.config.sameRoute c).map Prod.fst

/-- The slots LIVE in both views with the same segment and bus address, ascending (R43). -/
def State.kept (s : State) (g : Configuration) : List Nat :=
  (s.records.filter fun e => (g.endpoints.find e.1).any fun c => e.2.config.sameRoute c).map Prod.fst

/-- The generation of a slot advances by one, modulo 16 (R2); a generation of 0 is not listed. -/
def bumpGeneration (generations : Table (BitVec 4)) (slot : Nat) : Table (BitVec 4) :=
  let g := (generations.find slot).getD 0 + 1
  if g = 0 then generations.remove slot else generations.put slot g

/-- The committed configuration becomes the staging configuration, with generations, runtime parts and epoch; the
session becomes NONE (R43). -/
def installStaging (g : Configuration) (s : State) : State :=
  { s with
    records := g.endpoints.mapValues s.committedRecord
    generations := (s.retiring g).foldl bumpGeneration s.generations
    segments := g.segments
    groups := g.groups
    epoch := s.epoch + 1
    session := .absent }

/-- The threshold re-check of one record (R108); the second part counts the records quarantined. -/
def recheck (acc : State × Nat) (slot : Nat) : State × Nat :=
  match acc.1.records.find slot with
  | some r =>
    if r.runtime.health.isActive && decide (r.config.threshold ≤ r.runtime.score) then
      (quarantineEntry (acc.1.handleAt slot) .budget acc.1, acc.2 + 1)
    else acc
  | none => acc

/-- The commit point (R43; log 12). -/
def commitPoint (s : State) : State :=
  match s.session with
  | .armed holder g c =>
    let installed := installStaging g s
    let checked := (s.kept g).foldl recheck (installed, 0)
    let payload := wordOf installed.epoch.toNat ++ [byteOf (s.added g).length, byteOf (s.retiring g).length,
      byteOf (s.rerouted g).length, byteOf checked.2]
    raise holder.other .directoryChanged .none (respond holder c.tag .ok payload checked.1)
  | _ => s

/-- The examination of records whose in-flight count has fallen or whose reservation has been removed: when one of
them is affected and every affected record is at rest, the commit point is taken (R42). -/
def examine (hs : List Handle) (s : State) : State :=
  if (hs.any fun h => s.commitPending h) && s.session.affected.all s.atRest then commitPoint s else s

/-- A removal with the examination of its record (R42; log 13). -/
def removeExamined (t : Txn) (outcome : Option Status) (s : State) : State :=
  examine [t.handle] (removeQueued t outcome s)

/-- Several removals of one step, each with the examination of its record (R42, R57; log 13). -/
def removeAllExamined (ts : List Txn) (outcome : Option Status) (s : State) : State :=
  ts.foldl (fun u t => if t ∈ u.pool then removeExamined t outcome u else u) s

/-! ### Completion -/

/-- The open channel after an outcome: UNKNOWN after a failed selection write, and after BUS_STUCK in a selection or a
poll (R70, R73, R94). -/
def openAfter (e : Engine) (outcome : Status) : OpenChannel :=
  match outcome, e.work with
  | .segmentFault, _ => .unknown
  | .busStuck, some (.selecting _ _) => .unknown
  | .busStuck, some (.polling _) => .unknown
  | _, _ => e.openChannel

/-- The engine after an outcome (R76): CLEARING after BUS_STUCK, from now on, with no work after any other. -/
def Engine.afterOutcome (e : Engine) (outcome : Status) (now : Time) : Engine :=
  { e with
    work := if outcome = .busStuck then some (.clearing .automatic) else none
    phase := if outcome = .busStuck then some e.config.clearPhase else none
    since := if outcome = .busStuck then now else e.since
    abortPending := false
    openChannel := openAfter e outcome }

/-- Quarantine entry where the report leads to it, and the examination of the record: step 5 of a completion
(R59). -/
def followUp (due : Bool) (t : Txn) (s : State) : State :=
  examine [t.handle] (if due then quarantineEntry t.handle .budget s else s)

/-- The completion of a port's ACTIVE transaction (R59). The arbiters it leads to run at the end of the command
(settle). -/
def complete (p : Port) (outcome : Status) (data : List Byte) (s : State) : State :=
  match s.activeTxn? p with
  | some t =>
    let ended := s.setEngine p ((s.engine p).afterOutcome outcome s.now)
    followUp (entryDue s t outcome) t (deliver t outcome data (freeSlot t.slot (reportHealth t outcome ended)))
  | none => s

/-- A phase ends with BUS_STUCK: STUCK is reported, and the outcome follows (R94). -/
def completeStuck (p : Port) (s : State) : State :=
  complete p .busStuck [] (reportStuck p s)

/-- INHIBIT joins the cause set; under BLOCK_ALL it ends the ACTIVE transaction: at once where no phase is under way,
and at the next byte boundary where one is (R126, R133; log 18). -/
def joinInhibit (p : Port) (s : State) : State :=
  let joined := joinCause p .inhibit s
  let e := joined.engine p
  if e.config.mode = .blockAll ∧ e.activeSlot?.isSome then
    match e.phase with
    | none => complete p .abortedInhibit [] joined
    | some _ => joined.setEngine p { e with abortPending := true }
  else joined

/-- The inhibit filter has seen its level for tINH (R126). -/
def filterComplete (p : Port) (s : State) : State :=
  let u := s.unit p
  if u.inhHigh then leaveCause p .inhibit s
  else if u.causes.inhibit then s
  else joinInhibit p s

end Sys2Proof.Machine
end

