-- ==== Sys2Proof/Machine/Requests.lean ====
section
/-! DEFINITION. How a request reaches its block: the acceptance of a frame (R169 to R171), the parameter check ahead of
every other check (R187), and the checks that several requests share. -/
namespace Sys2Proof.Machine

/-- What the part puts out during a PUT of so many frame bytes: 0xFF on MISO throughout the window of Link A, the
direction byte included (R167); nothing but acknowledges on Link B (R168; log 6). -/
def clockPut (l : Link) (frameBytes : Nat) (s : State) : State :=
  s.setLink l { s.link l with
    sent := match l with
      | .a => List.replicate (frameBytes + 1) 0xFF
      | .b => [] }

/-- A good frame's tag becomes outstanding (R169). -/
def holdTag (l : Link) (tag : Tag) (s : State) : State :=
  s.setLink l { s.link l with outstanding := (s.link l).outstanding ++ [tag] }

/-- Check 3 of R169, and the acceptance of a frame: its tag becomes outstanding and its request is taken, in one
step. -/
def takeFrame (l : Link) (tag : Tag) (take : State → State) (s : State) : State :=
  if (s.link l).tagInUse tag then dropFrame l s else take (holdTag l tag s)

/-- The length of a request frame with so long a parameter block (R183). -/
def frameLength (ps : List Byte) : Nat :=
  ps.length + 4

/-- A request that arrives in a frame whose length and CRC are right (log 4). While RSTN is low no exchange is taken
(R182); a block longer than a frame can carry is dropped as R169 drops its frame. -/
def acceptRequest (l : Link) (tag : Tag) (ps : List Byte) (take : State → State) (s : State) : State :=
  if s.rstnLow then s
  else
    let t := clockPut l (frameLength ps) s
    if Config.parameterBytes < ps.length then dropFrame l t else takeFrame l tag take t

/-- A reset request is accepted whatever its tag and whatever its block (R169, R187). -/
def acceptReset (l : Link) (ps : List Byte) (take : State → State) (s : State) : State :=
  if s.rstnLow then s
  else
    let t := clockPut l (frameLength ps) s
    if Config.parameterBytes < ps.length then dropFrame l t else take t

/-- The parameter check of a request (R187): BAD_PARAMETER where its block reads as nothing. -/
def withBlock {α : Type} (l : Link) (tag : Tag) (block : Option α) (take : α → State → State) (s : State) : State :=
  match block with
  | none => answer l tag .badParameter s
  | some a => take a s

/-- The handle check in the committed view (R3). -/
def withRecord (l : Link) (tag : Tag) (h : Handle) (take : Record → State → State) (s : State) : State :=
  match s.record? h with
  | none => answer l tag .staleHandle s
  | some r => take r s

/-- The first check that fails gives the refusal; where none fails the request is taken. -/
def unlessRefused (l : Link) (tag : Tag) (refusal : Option Status) (take : State → State) (s : State) : State :=
  match refusal with
  | some status => answer l tag status s
  | none => take s

end Sys2Proof.Machine
end

