-- ==== Sys2Proof/Machine/DirectoryQueries.lean ====
section
/-! DEFINITION. The six lookups and queries of the directory (R15 to R21). -/
namespace Sys2Proof.Machine

/-! ### Views -/

/-- View access of a request that names the staging view (R15). -/
def withStaging (l : Link) (tag : Tag) (take : Configuration → State → State) (s : State) : State :=
  match s.session.holder?, s.session.staging? with
  | some h, some g => if h = l then take g s else answer l tag .sessionHeld s
  | _, _ => answer l tag .noSession s

/-- The view that a request names, as a configuration (R13, R15). -/
def withView (l : Link) (tag : Tag) (v : View) (take : Configuration → State → State) (s : State) : State :=
  match v with
  | .committed => take s.committed s
  | .staging => withStaging l tag take s

/-! ### QUERY_ENDPOINT -/

/-- The remaining time of a timer that may be absent, in two bytes, 0 where it is absent (R16, R186). -/
def State.remainingBytes (s : State) (expiry : Option Time) : List Byte :=
  wordOf ((expiry.map s.remaining).getD 0)

def Health.num : Health → Nat
  | .active => 0
  | .quarantined _ => 1
  | .probing _ => 2

def Health.causeNum (h : Health) : Nat :=
  (h.cause?.map QuarantineCause.num).getD 0

/-- The number of a write-busy form (R186). -/
def writeBusyNum : Option WriteBusy → Nat
  | none => 0
  | some (.timed _) => 1
  | some (.poll _ _) => 2

/-- The expiry or window end of a write-busy form (R9). -/
def WriteBusy.ends : WriteBusy → Time
  | .timed e => e
  | .poll e _ => e

/-- The poll-wait end of a write-busy form (R9). -/
def WriteBusy.pollWait? : WriteBusy → Option Time
  | .timed _ => none
  | .poll _ wait => wait

/-- The committed-view answer of QUERY_ENDPOINT, 29 bytes (R16, R186). -/
def State.endpointPayload (s : State) (h : Handle) (r : Record) : List Byte :=
  let rt := r.runtime
  let reservation := s.reservation? h
  recordBytes r.config ++ [byteOf rt.health.num, byteOf rt.score, byteOf rt.health.causeNum,
    byteOf (writeBusyNum rt.writeBusy)] ++ s.remainingBytes (rt.writeBusy.map WriteBusy.ends) ++
    s.remainingBytes (rt.writeBusy.bind WriteBusy.pollWait?) ++
    [byteOf (s.inFlight h), byteOf (holderNum (reservation.map Reservation.holder))] ++
    s.remainingBytes (reservation.map Reservation.expiry) ++ [if s.commitPending h then 1 else 0]

/-- Staged statuses of an endpoint slot (R16, R184), with the configuration that a staging-view query returns. -/
def stagedEndpoint (committed staging : Option EndpointConfig) : Option (Nat × EndpointConfig) :=
  match committed, staging with
  | none, some c => some (0, c)
  | some d, some c => some (if c = d then 1 else 2, c)
  | some d, none => some (3, d)
  | none, none => none

/-- QUERY_ENDPOINT of a staging view (R16). -/
def queryStagedEndpoint (l : Link) (tag : Tag) (h : Handle) (g : Configuration) (s : State) : State :=
  let staged := stagedEndpoint (s.committed.endpoints.find h.slot) (g.endpoints.find h.slot)
  if s.generation h.slot = h.gen then
    match staged with
    | some (status, c) => respond l tag .ok (recordBytes c ++ [byteOf status]) s
    | none => answer l tag .staleHandle s
  else answer l tag .staleHandle s

/-- QUERY_ENDPOINT (R16). -/
def takeQueryEndpoint (l : Link) (tag : Tag) (ps : List Byte) : State → State :=
  withBlock l tag (queryEndpointBlock? ps) fun (h, v) s =>
    match v with
    | .committed => withRecord l tag h (fun r t => respond l tag .ok (t.endpointPayload h r) t) s
    | .staging => withStaging l tag (queryStagedEndpoint l tag h) s

/-- QUERY_ENDPOINT. -/
def execQueryEndpoint (l : Link) (tag : Tag) (ps : List Byte) (s : State) : Host.Outcome State Fault Refusal :=
  .next (acceptRequest l tag ps (takeQueryEndpoint l tag ps) s)

/-! ### LOOKUP -/

/-- A configuration matches the key of a LOOKUP (R17). -/
def LookupKey.matches (k : LookupKey) (c : EndpointConfig) : Bool :=
  match k with
  | .location n a => decide (c.segment = n ∧ c.address = a)
  | .label x => decide (c.label = some x)

/-- LOOKUP (R17). -/
def takeLookup (l : Link) (tag : Tag) (ps : List Byte) : State → State :=
  withBlock l tag (lookupBlock? ps) fun (v, key) =>
    withView l tag v fun g s =>
      match g.endpoints.find? fun e => key.matches e.2 with
      | some e => respond l tag .ok (handleBytes (s.handleAt e.1)) s
      | none => answer l tag .notFound s

/-- LOOKUP. -/
def execLookup (l : Link) (tag : Tag) (ps : List Byte) (s : State) : Host.Outcome State Fault Refusal :=
  .next (acceptRequest l tag ps (takeLookup l tag ps) s)

/-! ### LIST_ENDPOINTS -/

/-- The slots that one LIST_ENDPOINTS returns (R18). -/
def listedSlots (g : Configuration) (start : Nat) : List Nat :=
  ((g.endpoints.map Prod.fst).filter fun n => decide (start ≤ n)).take Config.listedHandles

/-- The continuation of a LIST_ENDPOINTS (R18, R186): 0xFF is the end marker. -/
def continuation (slots : List Nat) : Byte :=
  match slots.getLast? with
  | some last => if slots.length = Config.listedHandles ∧ last < 127 then byteOf (last + 1) else 0xFF
  | none => 0xFF

/-- LIST_ENDPOINTS (R18). -/
def takeListEndpoints (l : Link) (tag : Tag) (ps : List Byte) : State → State :=
  withBlock l tag (listBlock? ps) fun (v, start) =>
    withView l tag v fun g s =>
      let slots := listedSlots g start
      respond l tag .ok (wordOf s.epoch.toNat ++ [byteOf slots.length, continuation slots] ++
        slots.flatMap fun n => handleBytes (s.handleAt n)) s

/-- LIST_ENDPOINTS. -/
def execListEndpoints (l : Link) (tag : Tag) (ps : List Byte) (s : State) : Host.Outcome State Fault Refusal :=
  .next (acceptRequest l tag ps (takeListEndpoints l tag ps) s)

/-! ### QUERY_SEGMENT -/

/-- The number of records of a view on a segment (R19). -/
def Configuration.recordsOn (g : Configuration) (n : Nat) : Nat :=
  g.endpoints.countIf fun c => decide (c.segment = n)

/-- The kind, the port and the path of a present segment (R19, R184). -/
def segmentBytes (segments : Table Segment) (n : Nat) : Option (List Byte) :=
  match Port.ofNat? n with
  | some p => some [0, byteOf p.num, 0, 0, 0]
  | none => (segments.find n).map fun x =>
    [1, byteOf x.port.num, x.mux.setWidth 8, x.channel.setWidth 8, byteOf x.speed.num]

/-- QUERY_SEGMENT of the committed view (R19). -/
def querySegmentCommitted (l : Link) (tag : Tag) (n : Nat) (s : State) : State :=
  match segmentBytes s.segments n with
  | some bytes => respond l tag .ok (bytes ++ [byteOf (s.committed.recordsOn n)]) s
  | none => answer l tag .noSuchSegment s

/-- QUERY_SEGMENT of a staging view, with its staged status (R19, R184). -/
def querySegmentStaged (l : Link) (tag : Tag) (n : Nat) (g : Configuration) (s : State) : State :=
  let count := byteOf (g.recordsOn n)
  match segmentBytes s.segments n, segmentBytes g.segments n with
  | none, some bytes => respond l tag .ok (bytes ++ [count, 0]) s
  | some _, some bytes => respond l tag .ok (bytes ++ [count, 1]) s
  | some bytes, none => respond l tag .ok (bytes ++ [count, 2]) s
  | none, none => answer l tag .noSuchSegment s

/-- QUERY_SEGMENT (R19). -/
def takeQuerySegment (l : Link) (tag : Tag) (ps : List Byte) : State → State :=
  withBlock l tag (numberViewBlock? 31 ps) fun (n, v) =>
    match v with
    | .committed => querySegmentCommitted l tag n
    | .staging => withStaging l tag (querySegmentStaged l tag n)

/-- QUERY_SEGMENT. -/
def execQuerySegment (l : Link) (tag : Tag) (ps : List Byte) (s : State) : Host.Outcome State Fault Refusal :=
  .next (acceptRequest l tag ps (takeQuerySegment l tag ps) s)

/-! ### QUERY_GROUP -/

/-- The member count and the members of a list (R20, R186). -/
def memberBytes (members : List Handle) : List Byte :=
  byteOf members.length :: members.flatMap handleBytes

/-- QUERY_GROUP (R20): a query of the staging view also carries the changed byte. -/
def takeQueryGroup (l : Link) (tag : Tag) (ps : List Byte) : State → State :=
  withBlock l tag (numberViewBlock? 15 ps) fun (n, v) s =>
    let committed := s.committed.group n
    match v with
    | .committed => respond l tag .ok (memberBytes committed) s
    | .staging => withStaging l tag (fun g t =>
        respond l tag .ok (memberBytes (g.group n) ++ [if g.group n = committed then 0 else 1]) t) s

/-- QUERY_GROUP. -/
def execQueryGroup (l : Link) (tag : Tag) (ps : List Byte) (s : State) : Host.Outcome State Fault Refusal :=
  .next (acceptRequest l tag ps (takeQueryGroup l tag ps) s)

/-! ### QUERY_DIRECTORY -/

/-- The number of the session state (R186). -/
def Session.num : Session → Nat
  | .absent => 0
  | .opened _ _ _ => 1
  | .armed _ _ _ => 2

/-- The idle expiry of an OPEN session (R27). -/
def Session.idleExpiry? : Session → Option Time
  | .opened _ _ e => some e
  | _ => none

/-- The commit record of an ARMED session (R25). -/
def Session.commit? : Session → Option CommitRecord
  | .armed _ _ c => some c
  | _ => none

/-- The answer of QUERY_DIRECTORY, 17 bytes (R21, R186). -/
def State.directoryPayload (s : State) : List Byte :=
  let x := s.session
  wordOf s.epoch.toNat ++ [byteOf s.records.length, byteOf (s.records.countIf fun r => r.runtime.health.isQuarantined),
    byteOf (s.records.countIf fun r => r.runtime.health.isProbing), byteOf s.segments.length, byteOf s.groups.length,
    byteOf x.num, byteOf (holderNum x.holder?), byteOf ((x.staging?.map fun g => g.endpoints.length).getD 0)] ++
    s.remainingBytes x.idleExpiry? ++ [byteOf ((x.commit?.map fun c => c.mode.num).getD 0), byteOf x.affected.length,
    byteOf (x.affected.countP fun h => !s.atRest h)] ++ s.remainingBytes (x.commit?.map CommitRecord.deadline)

/-- QUERY_DIRECTORY (R21). -/
def takeQueryDirectory (l : Link) (tag : Tag) (ps : List Byte) : State → State :=
  withBlock l tag (emptyBlock? ps) fun _ s => respond l tag .ok s.directoryPayload s

/-- QUERY_DIRECTORY. -/
def execQueryDirectory (l : Link) (tag : Tag) (ps : List Byte) (s : State) : Host.Outcome State Fault Refusal :=
  .next (acceptRequest l tag ps (takeQueryDirectory l tag ps) s)

end Sys2Proof.Machine
end

