-- ==== Sys2Proof/Machine/Sessions.lean ====
section
/-! DEFINITION. The staging session: opening and discarding it, the staged edits, COMMIT with its arming, and the ways
an armed commit ends (R25 to R45). -/
namespace Sys2Proof.Machine

/-! ### The session -/

/-- The session check of the staged edits, DISCARD_SESSION and COMMIT (R28): taken for the holder in OPEN alone. -/
def withOpenSession (l : Link) (tag : Tag) (take : Configuration → State → State) (s : State) : State :=
  match s.session with
  | .absent => answer l tag .noSession s
  | .opened h g _ => if h = l then take g s else answer l tag .sessionHeld s
  | .armed h _ _ => answer l tag (if h = l then .stageFrozen else .sessionHeld) s

/-- The staging view that OPEN_SESSION creates, and tSESS started (R26). -/
def openSession (l : Link) (s : State) : State :=
  { s with session := .opened l s.committed (s.after s.tSess) }

/-- OPEN_SESSION (R26). -/
def takeOpenSession (l : Link) (tag : Tag) (ps : List Byte) : State → State :=
  withBlock l tag (emptyBlock? ps) fun _ s =>
    match s.session with
    | .absent => answer l tag .ok (openSession l s)
    | _ => answer l tag .sessionHeld s

/-- OPEN_SESSION. -/
def execOpenSession (l : Link) (tag : Tag) (ps : List Byte) (s : State) : Host.Outcome State Fault Refusal :=
  .next (acceptRequest l tag ps (takeOpenSession l tag ps) s)

/-- The session becomes NONE: the staging view and any commit record are dropped, with their timers (R25). -/
def dropSession (s : State) : State :=
  { s with session := .absent }

/-- DISCARD_SESSION (R36). -/
def takeDiscardSession (l : Link) (tag : Tag) (ps : List Byte) : State → State :=
  withBlock l tag (emptyBlock? ps) fun _ =>
    withOpenSession l tag fun _ s => answer l tag .ok (dropSession s)

/-- DISCARD_SESSION. -/
def execDiscardSession (l : Link) (tag : Tag) (ps : List Byte) (s : State) : Host.Outcome State Fault Refusal :=
  .next (acceptRequest l tag ps (takeDiscardSession l tag ps) s)

/-- tSESS expires in OPEN (R27). -/
def expireSession (s : State) : State :=
  match s.session with
  | .opened h _ expiry => raise h .sessionExpired .none (dropSession (s.upTo expiry))
  | _ => s

/-- SESSION_EXPIRED. -/
def execSessionExpired (s : State) : Host.Outcome State Fault Refusal :=
  .next (expireSession s)

/-! ### Staged edits -/

/-- An edit is applied to the staging view, tSESS restarts, and the edit is answered OK (R29). -/
def applyEdit (l : Link) (tag : Tag) (g : Configuration) (payload : List Byte) (s : State) : State :=
  respond l tag .ok payload { s with session := .opened l g (s.after s.tSess) }

/-- A handle is valid in a staging view (R3). -/
def State.validStaged (s : State) (g : Configuration) (h : Handle) : Bool :=
  decide (s.generation h.slot = h.gen) && (g.endpoints.find h.slot).isSome

/-- The laws of R6 for a configuration part that is to stand in a slot of a staging view (R30, R31): the checks on the
segment, the location, the label and the multiplexers of its port, against every other record. `own` is the slot that
the edit replaces. -/
def recordRefusal (g : Configuration) (own : Option Nat) (c : EndpointConfig) : Option Status :=
  let others := g.endpoints.filter fun e => decide (some e.1 ≠ own)
  if segmentPresent g.segments c.segment = false then some .noSuchSegment
  else if others.any fun e => e.2.sameRoute c then some .duplicateAddress
  else if c.label.isSome && others.any fun e => decide (e.2.label = c.label) then some .duplicateLabel
  else if g.segments.any fun e => decide (e.2.port = portOfSegment g.segments c.segment ∧ e.2.mux = c.address) then
    some .addressConflict
  else none

/-- The lowest slot that is FREE in both views (R30). -/
def State.newSlot? (s : State) (g : Configuration) : Option Nat :=
  lowestFree Config.endpointSlots fun n => (s.records.find n).isSome || (g.endpoints.find n).isSome

/-- ADD_ENDPOINT in the staging view (R30). -/
def addEndpoint (l : Link) (tag : Tag) (c : EndpointConfig) (g : Configuration) (s : State) : State :=
  match recordRefusal g none c, s.newSlot? g with
  | some status, _ => answer l tag status s
  | none, none => answer l tag .tableFull s
  | none, some n => applyEdit l tag { g with endpoints := g.endpoints.put n c } (handleBytes (s.handleAt n)) s

/-- ADD_ENDPOINT (R30). -/
def takeAddEndpoint (l : Link) (tag : Tag) (ps : List Byte) : State → State :=
  withBlock l tag (recordBlock? ps) fun c => withOpenSession l tag (addEndpoint l tag c)

/-- ADD_ENDPOINT. -/
def execAddEndpoint (l : Link) (tag : Tag) (ps : List Byte) (s : State) : Host.Outcome State Fault Refusal :=
  .next (acceptRequest l tag ps (takeAddEndpoint l tag ps) s)

/-- MODIFY_ENDPOINT in the staging view (R31). -/
def modifyEndpoint (l : Link) (tag : Tag) (h : Handle) (c : EndpointConfig) (g : Configuration) (s : State) : State :=
  if s.validStaged g h then
    unlessRefused l tag (recordRefusal g (some h.slot) c)
      (applyEdit l tag { g with endpoints := g.endpoints.put h.slot c } (handleBytes h)) s
  else answer l tag .staleHandle s

/-- MODIFY_ENDPOINT (R31). -/
def takeModifyEndpoint (l : Link) (tag : Tag) (ps : List Byte) : State → State :=
  withBlock l tag (modifyBlock? ps) fun (h, c) => withOpenSession l tag (modifyEndpoint l tag h c)

/-- MODIFY_ENDPOINT. -/
def execModifyEndpoint (l : Link) (tag : Tag) (ps : List Byte) (s : State) : Host.Outcome State Fault Refusal :=
  .next (acceptRequest l tag ps (takeModifyEndpoint l tag ps) s)

/-- The groups of a view without a handle (R12): the remaining members keep their order, and an empty list is not
listed. -/
def groupsWithout (h : Handle) (groups : Table (List Handle)) : Table (List Handle) :=
  (groups.mapValues fun _ hs => hs.filter fun x => decide (x ≠ h)).filter fun e => !e.2.isEmpty

/-- RETIRE_ENDPOINT in the staging view (R32). -/
def retireEndpoint (l : Link) (tag : Tag) (h : Handle) (g : Configuration) (s : State) : State :=
  if s.validStaged g h then
    applyEdit l tag { g with endpoints := g.endpoints.remove h.slot, groups := groupsWithout h g.groups }
      [byteOf (g.groups.countIf fun hs => decide (h ∈ hs))] s
  else answer l tag .staleHandle s

/-- RETIRE_ENDPOINT (R32). -/
def takeRetireEndpoint (l : Link) (tag : Tag) (ps : List Byte) : State → State :=
  withBlock l tag (handleBlock? ps) fun h => withOpenSession l tag (retireEndpoint l tag h)

/-- RETIRE_ENDPOINT. -/
def execRetireEndpoint (l : Link) (tag : Tag) (ps : List Byte) (s : State) : Host.Outcome State Fault Refusal :=
  .next (acceptRequest l tag ps (takeRetireEndpoint l tag ps) s)

/-- The checks of ADD_SEGMENT against the staging view (R33). -/
def segmentRefusal (g : Configuration) (x : Segment) : Option Status :=
  if g.segments.any fun e => decide (e.2.port = x.port ∧ e.2.mux = x.mux ∧ e.2.channel = x.channel) then
    some .duplicateAddress
  else if g.endpoints.any fun e => decide (portOfSegment g.segments e.2.segment = x.port ∧ e.2.address = x.mux) then
    some .addressConflict
  else none

/-- The lowest configurable segment slot absent from both views (R33). -/
def State.newSegment? (s : State) (g : Configuration) : Option Nat :=
  lowestFree Config.segmentSlots fun n =>
    decide (n < Config.rootSegments) || (s.segments.find n).isSome || (g.segments.find n).isSome

/-- ADD_SEGMENT in the staging view (R33). -/
def addSegment (l : Link) (tag : Tag) (x : Segment) (g : Configuration) (s : State) : State :=
  match segmentRefusal g x, s.newSegment? g with
  | some status, _ => answer l tag status s
  | none, none => answer l tag .tableFull s
  | none, some n => applyEdit l tag { g with segments := g.segments.put n x } [byteOf n] s

/-- ADD_SEGMENT (R33). -/
def takeAddSegment (l : Link) (tag : Tag) (ps : List Byte) : State → State :=
  withBlock l tag (segmentBlock? ps) fun x => withOpenSession l tag (addSegment l tag x)

/-- ADD_SEGMENT. -/
def execAddSegment (l : Link) (tag : Tag) (ps : List Byte) (s : State) : Host.Outcome State Fault Refusal :=
  .next (acceptRequest l tag ps (takeAddSegment l tag ps) s)

/-- RETIRE_SEGMENT in the staging view (R34). -/
def retireSegment (l : Link) (tag : Tag) (n : Nat) (g : Configuration) (s : State) : State :=
  if (g.segments.find n).isNone then answer l tag .noSuchSegment s
  else if g.endpoints.any fun e => decide (e.2.segment = n) then answer l tag .segmentInUse s
  else applyEdit l tag { g with segments := g.segments.remove n } [] s

/-- RETIRE_SEGMENT (R34). -/
def takeRetireSegment (l : Link) (tag : Tag) (ps : List Byte) : State → State :=
  withBlock l tag (retireSegmentBlock? ps) fun n => withOpenSession l tag (retireSegment l tag n)

/-- RETIRE_SEGMENT. -/
def execRetireSegment (l : Link) (tag : Tag) (ps : List Byte) (s : State) : Host.Outcome State Fault Refusal :=
  .next (acceptRequest l tag ps (takeRetireSegment l tag ps) s)

/-- SET_GROUP in the staging view (R35). -/
def setGroup (l : Link) (tag : Tag) (n : Nat) (members : List Handle) (g : Configuration) (s : State) : State :=
  if members.all fun h => s.validStaged g h then applyEdit l tag (g.setGroup n members) [] s
  else answer l tag .staleHandle s

/-- SET_GROUP (R35). -/
def takeSetGroup (l : Link) (tag : Tag) (ps : List Byte) : State → State :=
  withBlock l tag (setGroupBlock? ps) fun (n, members) => withOpenSession l tag (setGroup l tag n members)

/-- SET_GROUP. -/
def execSetGroup (l : Link) (tag : Tag) (ps : List Byte) (s : State) : Host.Outcome State Fault Refusal :=
  .next (acceptRequest l tag ps (takeSetGroup l tag ps) s)

/-! ### COMMIT -/

/-- The affected set of a commit, in ascending slot order (R38). -/
def State.affectedBy (s : State) (g : Configuration) : List Handle :=
  (s.records.filter fun e =>
    match g.endpoints.find e.1 with
    | none => true
    | some c => !e.2.config.sameRoute c).map fun e => s.handleAt e.1

/-- The session becomes ARMED with its commit record (R39). -/
def armSession (l : Link) (tag : Tag) (mode : CommitMode) (deadline : Option Nat) (g : Configuration) (s : State) :
    State :=
  let c : CommitRecord :=
    { mode := mode, deadline := s.after (deadline.getD s.tCmt), tag := tag, affected := s.affectedBy g }
  { s with session := .armed l g c }

/-- The QUEUED transactions that target an affected record, port by port and from head to tail (R40). -/
def State.preempted (s : State) : List Txn :=
  Port.all.flatMap fun p => (s.queue p).filter fun t => s.commitPending t.handle

/-- PREEMPT arming removes queued work and reservations (R40, R147). -/
def preempt (s : State) : State :=
  s.session.affected.foldl (fun u h => revokeReservation h u) (removeAll s.preempted (some .cancelledCommit) s)

/-- The mode's own arming actions (R40, R41). -/
def armingActions (mode : CommitMode) (s : State) : State :=
  match mode with
  | .preempt => preempt s
  | .wait => s

/-- The commit point is taken at arming when every affected record is at rest (R39). -/
def commitIfAtRest (s : State) : State :=
  if s.session.affected.all s.atRest then commitPoint s else s

/-- The arming of a COMMIT (R39). -/
def arm (l : Link) (tag : Tag) (mode : CommitMode) (deadline : Option Nat) (g : Configuration) (s : State) : State :=
  commitIfAtRest (armingActions mode (armSession l tag mode deadline g s))

/-- COMMIT (R37). -/
def takeCommit (l : Link) (tag : Tag) (ps : List Byte) : State → State :=
  withBlock l tag (commitBlock? ps) fun (mode, deadline) =>
    withOpenSession l tag fun g s => settle [] s (arm l tag mode deadline g s)

/-- COMMIT. -/
def execCommit (l : Link) (tag : Tag) (ps : List Byte) (s : State) : Host.Outcome State Fault Refusal :=
  .next (acceptRequest l tag ps (takeCommit l tag ps) s)

/-- An armed commit fails: the COMMIT is answered, the session returns to OPEN with its staging view, and tSESS starts
(R44, R45). -/
def failCommit (status : Status) (s : State) : State :=
  match s.session with
  | .armed h g c => { answer h c.tag status s with session := .opened h g (s.after s.tSess) }
  | _ => s

/-- ABORT_COMMIT (R28, R45). -/
def takeAbortCommit (l : Link) (tag : Tag) (ps : List Byte) : State → State :=
  withBlock l tag (emptyBlock? ps) fun _ s =>
    match s.session with
    | .absent => answer l tag .noSession s
    | .opened h _ _ => answer l tag (if h = l then .stageFrozen else .sessionHeld) s
    | .armed h _ _ => if h = l then answer l tag .ok (failCommit .commitAborted s) else answer l tag .sessionHeld s

/-- ABORT_COMMIT. -/
def execAbortCommit (l : Link) (tag : Tag) (ps : List Byte) (s : State) : Host.Outcome State Fault Refusal :=
  .next (acceptRequest l tag ps (takeAbortCommit l tag ps) s)

/-- The commit deadline expires in ARMED (R44). -/
def expireCommit (s : State) : State :=
  match s.session with
  | .armed _ _ c => failCommit .commitDeadline (s.upTo c.deadline)
  | _ => s

/-- COMMIT_DEADLINE. -/
def execCommitDeadline (s : State) : Host.Outcome State Fault Refusal :=
  .next (expireCommit s)

end Sys2Proof.Machine
end

