-- ==== Sys2Proof/Machine/Transactions.lean ====
section
/-! DEFINITION. TRANSACT and the deadline of a queued transaction (R47 to R56). -/
namespace Sys2Proof.Machine

/-- The port checks of admission for an operation (R48, R49): enable, then containment. -/
def State.portRefusal (s : State) (p : Port) (operation : Operation) : Option Status :=
  if (s.engine p).config.enable = false then some .portDisabled
  else if s.portPermits p operation = false then some .portHeld
  else none

/-- Checks 2 to 9 of R48 after the handle: the first that fails gives the refusal. -/
def transactRefusal (s : State) (l : Link) (h : Handle) (o : OperationFields) (r : Record) : Option Status :=
  if o.operation ≠ .probe ∧ indexFits r.config.indexWidth o.index = false then some .badParameter
  else if (r.config.access l).permits o.operation = false then some .accessDenied
  else if r.runtime.health.isActive = false then some .quarantined
  else if s.reservedAgainst h l then some .reserved
  else if s.commitPending h then some .commitPending
  else match s.portRefusal (s.portOf r.config) o.operation with
    | some status => some status
    | none => if s.slotOpen l then none else some .noSlot

/-- The admission of a TRANSACT (R50): its deadline is the one carried or the link's default. -/
def placeTransact (l : Link) (tag : Tag) (h : Handle) (o : OperationFields) (r : Record) (s : State) : State :=
  settle [] s (place (.transact l tag) l h r.config o.operation o.index o.length o.data
    (s.after (o.deadline.getD (s.link l).config.defaultDeadline)) s)

/-- TRANSACT (R48). -/
def takeTransact (l : Link) (tag : Tag) (ps : List Byte) : State → State :=
  withBlock l tag (transactBlock? ps) fun (h, o) =>
    withRecord l tag h fun r s => unlessRefused l tag (transactRefusal s l h o r) (placeTransact l tag h o r) s

/-- TRANSACT. -/
def execTransact (l : Link) (tag : Tag) (ps : List Byte) (s : State) : Host.Outcome State Fault Refusal :=
  .next (acceptRequest l tag ps (takeTransact l tag ps) s)

/-- The deadline of the transaction in a slot expires (R56): a QUEUED one is removed, an ACTIVE one is left as it
is. -/
def expireTransaction (slot : Nat) (s : State) : State :=
  match s.txn? slot with
  | some t =>
    if s.isActive t then s
    else settle [] s (removeExamined t (some .deadlineExpired) (s.upTo t.deadline))
  | none => s

/-- TRANSACTION_DEADLINE. -/
def execTransactionDeadline (slot : Nat) (s : State) : Host.Outcome State Fault Refusal :=
  .next (expireTransaction slot s)

end Sys2Proof.Machine
end

