-- ==== Sys2Proof/Machine/Health.lean ====
section
/-! DEFINITION. RELEASE, QUARANTINE and CLEAR_SCORE (R110 to R117). -/
namespace Sys2Proof.Machine

/-- The access check of the requests other than TRANSACT (R5). -/
def accessRefusal (l : Link) (r : Record) : Option Status :=
  if r.config.readable l then none else some .accessDenied

/-- Checks 3 to 8 of R112. -/
def releaseRefusal (s : State) (l : Link) (h : Handle) (r : Record) : Option Status :=
  if r.config.readable l = false then some .accessDenied
  else match r.runtime.health with
    | .probing _ => some .probeInProgress
    | .active => some .notQuarantined
    | .quarantined _ =>
      if s.commitPending h then some .commitPending
      else match s.portRefusal (s.portOf r.config) .probe with
        | some status => some status
        | none => if s.slotOpen l then none else some .noSlot

/-- QUARANTINED becomes PROBING with its cause kept (R113); other states stay. -/
def Health.probed : Health → Health
  | .quarantined c => .probing c
  | h => h

/-- The acceptance of a RELEASE (R113): the record is PROBING and the probe is placed. -/
def startRelease (l : Link) (tag : Tag) (h : Handle) (r : Record) (s : State) : State :=
  settle [] s (place (.releaseProbe l tag) l h r.config .probe none none []
    (s.after (s.link l).config.defaultDeadline)
    (s.setRuntime h { r.runtime with health := r.runtime.health.probed }))

/-- RELEASE (R112). -/
def takeRelease (l : Link) (tag : Tag) (ps : List Byte) : State → State :=
  withBlock l tag (handleBlock? ps) fun h =>
    withRecord l tag h fun r s => unlessRefused l tag (releaseRefusal s l h r) (startRelease l tag h r) s

/-- RELEASE. -/
def execRelease (l : Link) (tag : Tag) (ps : List Byte) (s : State) : Host.Outcome State Fault Refusal :=
  .next (acceptRequest l tag ps (takeRelease l tag ps) s)

/-- The answer of QUARANTINE: the record's cause and score as they stand (R111, R186). -/
def answerQuarantine (l : Link) (tag : Tag) (h : Handle) (s : State) : State :=
  match s.record? h with
  | some r => respond l tag .ok [byteOf r.runtime.health.causeNum, byteOf r.runtime.score] s
  | none => s

/-- QUARANTINE of an ACTIVE record (R110, R111). -/
def operatorEntry (l : Link) (tag : Tag) (h : Handle) (s : State) : State :=
  settle [] s (answerQuarantine l tag h (examine [h] (quarantineEntry h .operator s)))

/-- Checks 4 and 5 of R110, and the entry. -/
def quarantineRecord (l : Link) (tag : Tag) (h : Handle) (r : Record) (s : State) : State :=
  match r.runtime.health with
  | .probing _ => answer l tag .probeInProgress s
  | .quarantined _ => answerQuarantine l tag h s
  | .active => if s.commitPending h then answer l tag .commitPending s else operatorEntry l tag h s

/-- QUARANTINE (R110). -/
def takeQuarantine (l : Link) (tag : Tag) (ps : List Byte) : State → State :=
  withBlock l tag (handleBlock? ps) fun h =>
    withRecord l tag h fun r => unlessRefused l tag (accessRefusal l r) (quarantineRecord l tag h r)

/-- QUARANTINE. -/
def execQuarantine (l : Link) (tag : Tag) (ps : List Byte) (s : State) : Host.Outcome State Fault Refusal :=
  .next (acceptRequest l tag ps (takeQuarantine l tag ps) s)

/-- CLEAR_SCORE of an ACTIVE record (R117): answered with the score it held before. -/
def clearScore (l : Link) (tag : Tag) (h : Handle) (r : Record) (s : State) : State :=
  if r.runtime.health.isActive then
    respond l tag .ok [byteOf r.runtime.score] (s.setRuntime h { r.runtime with score := 0 })
  else answer l tag .notActive s

/-- CLEAR_SCORE (R117). -/
def takeClearScore (l : Link) (tag : Tag) (ps : List Byte) : State → State :=
  withBlock l tag (handleBlock? ps) fun h =>
    withRecord l tag h fun r => unlessRefused l tag (accessRefusal l r) (clearScore l tag h r)

/-- CLEAR_SCORE. -/
def execClearScore (l : Link) (tag : Tag) (ps : List Byte) (s : State) : Host.Outcome State Fault Refusal :=
  .next (acceptRequest l tag ps (takeClearScore l tag ps) s)

end Sys2Proof.Machine
end

