-- ==== Sys2Proof/Machine/Reservations.lean ====
section
/-! DEFINITION. RESERVE, UNRESERVE and the expiry of a reservation (R137 to R146). -/
namespace Sys2Proof.Machine

/-- Checks 3 to 6 of R139. -/
def reserveRefusal (s : State) (l : Link) (h : Handle) (r : Record) : Option Status :=
  if r.config.readable l = false then some .accessDenied
  else if r.runtime.health.isActive = false then some .quarantined
  else if s.commitPending h then some .commitPending
  else if s.reservedAgainst h l then some .reserved
  else none

/-- The entry of a record with its expiry moved (R141). -/
def moveExpiry (h : Handle) (expiry : Time) (s : State) : State :=
  { s with reservations := s.reservations.map fun x => if x.handle = h then { x with expiry := expiry } else x }

/-- Checks 7 and 8 of R139: renewal (R141), or creation (R140). -/
def reserveRecord (l : Link) (tag : Tag) (h : Handle) (duration : Nat) (s : State) : State :=
  let expiry := s.after duration
  if (s.reservation? h).isSome then respond l tag .ok (1 :: wordOf duration) (moveExpiry h expiry s)
  else if s.reservations.length < Config.reservationEntries then
    respond l tag .ok (0 :: wordOf duration)
      { s with reservations := s.reservations ++ [{ handle := h, holder := l, expiry := expiry }] }
  else answer l tag .noReservationSlot s

/-- RESERVE (R139). -/
def takeReserve (l : Link) (tag : Tag) (ps : List Byte) : State → State :=
  withBlock l tag (reserveBlock? ps) fun (h, duration) =>
    withRecord l tag h fun r s => unlessRefused l tag (reserveRefusal s l h r) (reserveRecord l tag h duration) s

/-- RESERVE. -/
def execReserve (l : Link) (tag : Tag) (ps : List Byte) (s : State) : Host.Outcome State Fault Refusal :=
  .next (acceptRequest l tag ps (takeReserve l tag ps) s)

/-- Checks 4 and 5 of R144, and the removal; the record is examined (R138; log 13). -/
def unreserveRecord (l : Link) (tag : Tag) (h : Handle) (s : State) : State :=
  match s.reservation? h with
  | none => answer l tag .notReserved s
  | some x =>
    if x.holder = l then
      settle [] s (respond l tag .ok (wordOf (s.remaining x.expiry)) (examine [h] (removeReservation h s)))
    else answer l tag .notHolder s

/-- UNRESERVE (R144). -/
def takeUnreserve (l : Link) (tag : Tag) (ps : List Byte) : State → State :=
  withBlock l tag (handleBlock? ps) fun h =>
    withRecord l tag h fun r => unlessRefused l tag (accessRefusal l r) (unreserveRecord l tag h)

/-- UNRESERVE. -/
def execUnreserve (l : Link) (tag : Tag) (ps : List Byte) (s : State) : Host.Outcome State Fault Refusal :=
  .next (acceptRequest l tag ps (takeUnreserve l tag ps) s)

/-- The expiry of a record's reservation (R145). -/
def expireReservation (h : Handle) (s : State) : State :=
  match s.reservation? h with
  | some x =>
    settle [] s (examine [h] (raise x.holder .reservationExpired (.handle h) (removeReservation h (s.upTo x.expiry))))
  | none => s

/-- RESERVATION_EXPIRED. -/
def execReservationExpired (h : Handle) (s : State) : Host.Outcome State Fault Refusal :=
  .next (expireReservation h s)

end Sys2Proof.Machine
end

