-- ==== Sys2Proof/Machine/Groups.lean ====
section
/-! DEFINITION. GROUP_TRANSACT and the deadline of a group context (R150 to R161). -/
namespace Sys2Proof.Machine

/-- The lowest free context (R151). -/
def State.freeContext? (s : State) : Option Nat :=
  lowestFree Config.groupContexts fun c => (s.contexts.find c).isSome

/-- A context at acceptance (R151, R152). -/
def newContext (l : Link) (tag : Tag) (f : GroupFields) (members : List Handle) (s : State) : Context :=
  { link := l, tag := tag, group := f.group, operation := f.operation.operation, index := f.operation.index,
    length := f.operation.length, data := f.operation.data, policy := f.policy, deadline := s.after f.deadline,
    epoch := s.epoch, members := members.map fun h => { handle := h, condition := .pending }, stopFlag := false }

/-- The acceptance of a GROUP_TRANSACT in a context, with the first issue pass (R151). -/
def startGroup (l : Link) (tag : Tag) (f : GroupFields) (members : List Handle) (c : Nat) (s : State) : State :=
  settle [] s (issuePass c (s.setContext c (newContext l tag f members s)))

/-- The checks of R151 after the parameters. -/
def groupTransact (l : Link) (tag : Tag) (f : GroupFields) (s : State) : State :=
  let members := s.committed.group f.group
  if members.isEmpty then answer l tag .emptyGroup s
  else match s.freeContext? with
    | none => answer l tag .noGroupContext s
    | some c => startGroup l tag f members c s

/-- GROUP_TRANSACT (R151). -/
def takeGroupTransact (l : Link) (tag : Tag) (ps : List Byte) : State → State :=
  withBlock l tag (groupTransactBlock? ps) (groupTransact l tag)

/-- GROUP_TRANSACT. -/
def execGroupTransact (l : Link) (tag : Tag) (ps : List Byte) (s : State) : Host.Outcome State Fault Refusal :=
  .next (acceptRequest l tag ps (takeGroupTransact l tag ps) s)

/-- A transaction is a member of a context that is no orphan. -/
def Txn.memberOf (t : Txn) (c : Nat) : Bool :=
  match t.origin with
  | .member d _ => decide (d = c) && !t.orphan
  | _ => false

/-- The QUEUED members of a context, port by port and from head to tail (R57, R160). -/
def State.queuedMembers (s : State) (c : Nat) : List Txn :=
  Port.all.flatMap fun p => (s.queue p).filter fun t => t.memberOf c

/-- The stop flag of a context (R152) is given a value. -/
def setStopFlag (c : Nat) (flag : Bool) (s : State) : State :=
  match s.contexts.find c with
  | some x => s.setContext c { x with stopFlag := flag }
  | none => s

/-- The context deadline expires (R160): unissued members get DEADLINE_EXPIRED, waiting ones leave the list, queued
ones are removed. It sets no stop flag. The report follows at once when no member is ACTIVE. -/
def expireContext (c : Nat) (s : State) : State :=
  match s.contexts.find c with
  | some x =>
    let t := s.upTo x.deadline
    let ended := dropWaiting c (t.setContext c (x.endUnissued .deadlineExpired))
    settle [] s
      (closeIfDone c (setStopFlag c x.stopFlag
        (removeAllExamined (ended.queuedMembers c) (some .deadlineExpired) ended)))
  | none => s

/-- CONTEXT_DEADLINE. -/
def execContextDeadline (c : Nat) (s : State) : Host.Outcome State Fault Refusal :=
  .next (expireContext c s)

end Sys2Proof.Machine
end

