-- ==== Sys2Proof/Machine/Ports.lean ====
section
/-! DEFINITION. CONFIGURE_PORT, QUERY_PORT, CLEAR_BUS and RESUME_PORT (R78 to R82, R129, R130). -/
namespace Sys2Proof.Machine

/-! ### CONFIGURE_PORT -/

/-- The whole port configuration is replaced (R79). -/
def replaceConfig (p : Port) (c : PortConfig) (s : State) : State :=
  s.setEngine p { s.engine p with config := c }

/-- A DISABLED engine that is enabled enters IDLE with the open channel UNKNOWN; a DISABLING one goes on with its work
(R81). -/
def enableEngine (p : Port) (s : State) : State :=
  let e := s.engine p
  if e.work.isNone then s.setEngine p { e with openChannel := .unknown } else s

/-- The enable field acts (R80, R81); one that repeats the current value does not. -/
def applyEnable (p : Port) (was : Bool) (s : State) : State :=
  match was, (s.engine p).config.enable with
  | true, false => removeAllExamined (s.queue p) (some .cancelledDisable) s
  | false, true => enableEngine p s
  | _, _ => s

/-- The inhibit filter against tINH as configured now: complete when the level has been held as long (R126). -/
def filterIfDue (p : Port) (s : State) : State :=
  if (s.unit p).inhSince + Config.ms (s.engine p).config.tInh ≤ s.now then filterComplete p s else s

/-- An accepted CONFIGURE_PORT (R79, R80, R81, R125, R126; log 15). -/
def configurePort (l : Link) (tag : Tag) (p : Port) (c : PortConfig) (s : State) : State :=
  settle [] s (answer l tag .ok (filterIfDue p (joinArbitrationIfDue p
    (applyEnable p (s.engine p).config.enable (replaceConfig p c s)))))

/-- CONFIGURE_PORT (R79). -/
def takeConfigurePort (l : Link) (tag : Tag) (ps : List Byte) : State → State :=
  withBlock l tag (configurePortBlock? ps) fun (p, c) => configurePort l tag p c

/-- CONFIGURE_PORT. -/
def execConfigurePort (l : Link) (tag : Tag) (ps : List Byte) (s : State) : Host.Outcome State Fault Refusal :=
  .next (acceptRequest l tag ps (takeConfigurePort l tag ps) s)

/-! ### QUERY_PORT -/

/-- The open channel with its multiplexer and channel, 0 unless a channel is open (R186). -/
def OpenChannel.bytes : OpenChannel → List Byte
  | .none => [0, 0, 0]
  | .unknown => [1, 0, 0]
  | .channel mux c => [2, mux.setWidth 8, c.setWidth 8]

/-- The context number of an origin, 0 unless GROUP (R186). -/
def Origin.contextNum : Origin → Nat
  | .member c _ => c
  | _ => 0

/-- The ACTIVE transaction of QUERY_PORT, eight bytes, all 0 where there is none (R82, R186). -/
def activeBytes : Option Txn → List Byte
  | none => List.replicate 8 0
  | some t => [1, byteOf t.origin.originClass.num, byteOf t.origin.contextNum] ++ handleBytes t.handle ++
      [byteOf t.operation.num] ++ wordOf t.epoch.toNat

/-- The number of QUEUED transactions of a class on a port (R82). -/
def State.queuedOf (s : State) (p : Port) (c : OriginClass) : Nat :=
  (s.queue p).countP fun t => decide (t.origin.originClass = c)

/-- The answer of QUERY_PORT, 31 bytes (R82, R186). -/
def State.portPayload (s : State) (p : Port) : List Byte :=
  let e := s.engine p
  let u := s.unit p
  [if e.config.enable then 1 else 0, byteOf e.stateNum, byteOf e.phaseNum] ++ e.openChannel.bytes ++
    [byteOf e.pointer.num, byteOf (s.queue p).length, byteOf (s.queuedOf p .linkA), byteOf (s.queuedOf p .linkB),
      byteOf (s.queuedOf p .group), byteOf ((s.queue p).countP s.eligible)] ++
    activeBytes (s.activeTxn? p) ++ portConfigBytes e.config ++
    [byteOf u.state.num, u.causes.byte, byteOf u.losses]

/-- QUERY_PORT (R82). -/
def takeQueryPort (l : Link) (tag : Tag) (ps : List Byte) : State → State :=
  withBlock l tag (portBlock? ps) fun p s => respond l tag .ok (s.portPayload p) s

/-- QUERY_PORT. -/
def execQueryPort (l : Link) (tag : Tag) (ps : List Byte) (s : State) : Host.Outcome State Fault Refusal :=
  .next (acceptRequest l tag ps (takeQueryPort l tag ps) s)

/-! ### CLEAR_BUS -/

/-- A manual bus clear starts in an IDLE engine; in every other state the request is refused PORT_BUSY (R78). -/
def clearBus (l : Link) (tag : Tag) (p : Port) (s : State) : State :=
  let e := s.engine p
  if e.idle then
    s.setEngine p { e with
      work := some (.clearing (.manual (some (l, tag)))), phase := some e.config.clearPhase, since := s.now }
  else answer l tag .portBusy s

/-- CLEAR_BUS (R78). -/
def takeClearBus (l : Link) (tag : Tag) (ps : List Byte) : State → State :=
  withBlock l tag (portBlock? ps) (clearBus l tag)

/-- CLEAR_BUS. -/
def execClearBus (l : Link) (tag : Tag) (ps : List Byte) (s : State) : Host.Outcome State Fault Refusal :=
  .next (acceptRequest l tag ps (takeClearBus l tag ps) s)

/-! ### RESUME_PORT -/

/-- RESUME_PORT by the containment state (R129, R130). -/
def resumePort (l : Link) (tag : Tag) (p : Port) (s : State) : State :=
  match (s.unit p).state with
  | .clear => answer l tag .notHeld s
  | .held => answer l tag .conditionPresent s
  | .holdoff _ => settle [] s (answer l tag .ok (clearPort p s))
  | .awaitResume => settle [] s (answer l tag .ok (clearPort p s))

/-- RESUME_PORT (R129). -/
def takeResumePort (l : Link) (tag : Tag) (ps : List Byte) : State → State :=
  withBlock l tag (portBlock? ps) (resumePort l tag)

/-- RESUME_PORT. -/
def execResumePort (l : Link) (tag : Tag) (ps : List Byte) (s : State) : Host.Outcome State Fault Refusal :=
  .next (acceptRequest l tag ps (takeResumePort l tag ps) s)

end Sys2Proof.Machine
end

