-- ==== Sys2Proof/Machine/LinkRequests.lean ====
section
/-! DEFINITION. The requests of the link interface: IDENTIFY, CONFIGURE_LINK, CONFIGURE_DEVICE and GET_ATTENTION (R175,
R177 to R179). -/
namespace Sys2Proof.Machine

/-- The number of a link in IDENTIFY (R185). -/
def linkNum : Link → Byte
  | .a => 0
  | .b => 1

/-- The capacities that IDENTIFY reports, in the order of R177. -/
def capacities : List Nat :=
  [Config.endpointSlots, Config.segmentSlots, Config.groupCount, Config.groupMembers, Config.transactionSlots,
    Config.slotsPerLink, Config.reservationEntries, Config.groupContexts, 6, Config.tagsPerLink]

/-- The answer of IDENTIFY (R177, R185). -/
def State.identity (s : State) (l : Link) : List Byte :=
  Config.vendorIdentity ++ Config.partIdentity ++ [Config.siliconRevision, linkNum l, s.linkBAddress.setWidth 8] ++
    capacities.map byteOf ++ wordOf s.epoch.toNat ++ wordOf s.tSess ++ wordOf s.tCmt

/-- IDENTIFY (R177). -/
def takeIdentify (l : Link) (tag : Tag) (ps : List Byte) : State → State :=
  withBlock l tag (emptyBlock? ps) fun _ s => respond l tag .ok (s.identity l) s

/-- IDENTIFY. -/
def execIdentify (l : Link) (tag : Tag) (ps : List Byte) (s : State) : Host.Outcome State Fault Refusal :=
  .next (acceptRequest l tag ps (takeIdentify l tag ps) s)

/-- The whole configuration of the sending link is replaced (R178). -/
def configureLink (l : Link) (c : LinkConfig) (s : State) : State :=
  s.setLink l { s.link l with config := c }

/-- CONFIGURE_LINK (R178). -/
def takeConfigureLink (l : Link) (tag : Tag) (ps : List Byte) : State → State :=
  withBlock l tag (configureLinkBlock? ps) fun c s => answer l tag .ok (configureLink l c s)

/-- CONFIGURE_LINK. -/
def execConfigureLink (l : Link) (tag : Tag) (ps : List Byte) (s : State) : Host.Outcome State Fault Refusal :=
  .next (acceptRequest l tag ps (takeConfigureLink l tag ps) s)

/-- tSESS and the default tCMT are set; running timers keep their expiries (R179). -/
def configureDevice (tSess tCmt : Nat) (s : State) : State :=
  { s with tSess := tSess, tCmt := tCmt }

/-- CONFIGURE_DEVICE (R179). -/
def takeConfigureDevice (l : Link) (tag : Tag) (ps : List Byte) : State → State :=
  withBlock l tag (configureDeviceBlock? ps) fun (tSess, tCmt) s => answer l tag .ok (configureDevice tSess tCmt s)

/-- CONFIGURE_DEVICE. -/
def execConfigureDevice (l : Link) (tag : Tag) (ps : List Byte) (s : State) : Host.Outcome State Fault Refusal :=
  .next (acceptRequest l tag ps (takeConfigureDevice l tag ps) s)

/-- The type and the bytes of a subject (R185). -/
def Subject.bytes : Subject → List Byte
  | .none => [0, 0, 0]
  | .handle h => 1 :: handleBytes h
  | .segment n => [2, 0, byteOf n]
  | .port p => [3, 0, byteOf p.num]

/-- An entry of a GET_ATTENTION response (R185). -/
def attentionBytes (e : Nat × AttentionEntry) : List Byte :=
  [byteOf e.1] ++ e.2.subject.bytes ++ [byteOf e.2.count]

/-- The answer of GET_ATTENTION: the frame error count, then the entries in the order of the kinds (R175, R185). -/
def LinkState.attentionPayload (i : LinkState) : List Byte :=
  [byteOf i.frameErrors, byteOf i.attention.length] ++ i.attention.flatMap attentionBytes

/-- The attention set of a link becomes empty (R175). -/
def emptyAttention (l : Link) (s : State) : State :=
  s.setLink l { s.link l with attention := [] }

/-- GET_ATTENTION (R175). -/
def takeGetAttention (l : Link) (tag : Tag) (ps : List Byte) : State → State :=
  withBlock l tag (emptyBlock? ps) fun _ s =>
    respond l tag .ok (s.link l).attentionPayload (emptyAttention l s)

/-- GET_ATTENTION. -/
def execGetAttention (l : Link) (tag : Tag) (ps : List Byte) (s : State) : Host.Outcome State Fault Refusal :=
  .next (acceptRequest l tag ps (takeGetAttention l tag ps) s)

end Sys2Proof.Machine
end

