-- ==== Sys2Proof/Machine/Resets.lean ====
section
/-! DEFINITION. The four resets: LINK_RESET, SOFT_RESET and the two edges of RSTN (R22 to R24, R46, R61 to R63, R83, R84,
R104, R136, R149, R163, R164, R180 to R182). -/
namespace Sys2Proof.Machine

/-! ### LINK_RESET -/

/-- A session held by the link becomes NONE, with no response (R46). -/
def dropHeldSession (l : Link) (s : State) : State :=
  if s.session.holder? = some l then dropSession s else s

/-- Every context the link issued becomes free, and its waiting members leave the waiting list (R163). -/
def abandonContexts (l : Link) (s : State) : State :=
  let abandoned : Nat → Bool := fun c => (s.contexts.find c).any fun x => decide (x.link = l)
  { s with
    contexts := s.contexts.filter fun e => decide (e.2.link ≠ l)
    waiting := s.waiting.filter fun w => !abandoned w.1 }

/-- The link's ACTIVE transactions become orphans (R61). -/
def markOrphans (l : Link) (s : State) : State :=
  { s with pool := s.pool.map fun t => if t.attributed = l ∧ s.isActive t then { t with orphan := true } else t }

/-- The link's QUEUED transactions, port by port and from head to tail (R57, R63). -/
def State.queuedOfLink (s : State) (l : Link) : List Txn :=
  Port.all.flatMap fun p => (s.queue p).filter fun t => decide (t.attributed = l)

/-- A manual clear requested by the link runs on without its response (R78). -/
def ClearKind.forget (l : Link) : ClearKind → ClearKind
  | .manual (some (m, tag)) => if m = l then .manual none else .manual (some (m, tag))
  | k => k

/-- The work in hand after the link has been reset (R78). -/
def Work.forget (l : Link) : Work → Work
  | .clearing k => .clearing (k.forget l)
  | w => w

/-- The manual clears of the link are forgotten (R78). -/
def forgetClears (l : Link) (s : State) : State :=
  { s with engines := s.engines.map fun e => { e with work := e.work.map (Work.forget l) } }

/-- The reservations that a link holds are removed silently, each with its examination (R138, R149), in the order in
which they were made: DESIGN CHOICE (log 14). -/
def dropReservations (l : Link) (s : State) : State :=
  ((s.reservations.filter fun r => decide (r.holder = l)).map Reservation.handle).foldl
    (fun u h => examine [h] (removeReservation h u)) s

/-- The link interface at a link reset: queue, attention set, tags and frame error count; a GET in progress goes on
with its copy (R173, R180). -/
def LinkState.cleared (i : LinkState) : LinkState :=
  { i with
    outstanding := [], queue := [], attention := [], frameErrors := 0,
    getting := i.getting.map fun g => { g with fromHead := false } }

/-- The link interface is cleared. -/
def clearLink (l : Link) (s : State) : State :=
  s.setLink l (s.link l).cleared

/-- What a LINK_RESET does before it is answered (R180; log 14). -/
def resetLink (l : Link) (s : State) : State :=
  let marked := markOrphans l (abandonContexts l (dropHeldSession l s))
  clearLink l (dropReservations l (forgetClears l (removeAllExamined (marked.queuedOfLink l) none marked)))

/-- LINK_RESET (R180): its response is then the one entry of the link's queue. -/
def takeLinkReset (l : Link) (tag : Tag) (s : State) : State :=
  settle [] s (answer l tag .ok (holdTag l tag (resetLink l s)))

/-- LINK_RESET. -/
def execLinkReset (l : Link) (tag : Tag) (ps : List Byte) (s : State) : Host.Outcome State Fault Refusal :=
  .next (acceptReset l ps (takeLinkReset l tag) s)

/-! ### SOFT_RESET -/

/-- The engine drives its lines in a phase that began with START; a bus clear is none. -/
def Engine.driving (e : Engine) : Bool :=
  e.phase.isSome && e.activeSlot?.isSome

/-- The lines of a port at a reset. An engine that drives ends its phase at once: the data line is released, with STOP
where the clock line is high (R83, R104; log 26), and after it no other master's transfer is in progress. An abandoned
bus clear leaves both lines at the levels last seen: DESIGN CHOICE (R84; log 39). Where the
engine is not driving, another master's transfer that has been observed goes on: DESIGN CHOICE (log 34). -/
def Lines.released (x : Lines) (driving : Bool) (now : Time) : Lines :=
  if driving then { x with sda := true, sclSince := now, sdaSince := now, otherMaster := false } else x

/-- The lines of every port as its engine ends its phase at once. -/
def State.releasedLines (s : State) : PerPort Lines :=
  let f := fun p => (s.line p).released (s.engine p).driving s.now
  ⟨f .p0, f .p1, f .p2, f .p3, f .p4, f .p5⟩

/-- A record after SOFT_RESET (R23): no write-busy form, and PROBING returned to QUARANTINED. -/
def Record.softReset (r : Record) : Record :=
  { r with runtime := { r.runtime with health := r.runtime.health.unprobed, writeBusy := none } }

/-- An engine after SOFT_RESET (R84): IDLE or DISABLED by its enable. -/
def Engine.softReset (e : Engine) : Engine :=
  { e with work := none, phase := none, abortPending := false, openChannel := .unknown, pointer := .group }

/-- A containment unit after SOFT_RESET (R136): the filter restarts from the level of its input. -/
def Containment.restarted (u : Containment) (now : Time) : Containment :=
  Containment.reset u.inhHigh now

/-- The blocks other than the link interfaces at a SOFT_RESET (R23, R46, R62, R84, R104, R136, R149, R164, R181). -/
def resetBlocks (s : State) : State :=
  { s with
    session := .absent
    records := s.records.mapValues fun _ r => r.softReset
    pool := []
    waiting := []
    engines := s.engines.map Engine.softReset
    lines := s.releasedLines
    units := s.units.map fun u => u.restarted s.now
    reservations := []
    contexts := [] }

/-- What a SOFT_RESET does before it is answered: the blocks, both link interfaces, SOFT_RESET_DONE on both links
(R181). -/
def resetDevice (s : State) : State :=
  raiseBoth .softResetDone .none (clearLink .b (clearLink .a (resetBlocks s)))

/-- SOFT_RESET (R181): its response is then the one entry of the requesting link's queue. -/
def takeSoftReset (l : Link) (tag : Tag) (s : State) : State :=
  answer l tag .ok (holdTag l tag (resetDevice s))

/-- SOFT_RESET. -/
def execSoftReset (l : Link) (tag : Tag) (ps : List Byte) (s : State) : Host.Outcome State Fault Refusal :=
  .next (acceptReset l ps (takeSoftReset l tag) s)

/-! ### RSTN -/

/-- Every register at its value after power-on, with what is not the part's: the clock, the levels of its pins with
another master's transfer that has been observed on them (DESIGN CHOICE, log 34), and the commands that wait (log 7,
log 23). -/
def State.powerOn (s : State) (linkBAddress : BusAddress) : State :=
  { State.reset with
    now := s.now
    linkBAddress := linkBAddress
    lines := s.releasedLines
    units := s.units.map fun u => u.restarted s.now
    pending := s.pending }

/-- No attention stands while RSTN is low: DEVICE_RESET is raised at its release (R182). -/
def LinkState.held (i : LinkState) : LinkState :=
  { i with attention := [] }

/-- RSTN is asserted: every operation in progress ends at once, and the interfaces take no exchanges (R22, R62, R83,
R104, R173, R182; log 23). -/
def assertRstn (s : State) : State :=
  let off := s.powerOn s.linkBAddress
  { off with rstnLow := true, links := ⟨off.links.a.held, off.links.b.held⟩ }

/-- RSTN_ASSERT. -/
def execRstnAssert (s : State) : Host.Outcome State Fault Refusal :=
  .next (assertRstn s)

/-- RSTN is released: the straps and the inhibit inputs are sampled (R121, R168, R182). -/
def releaseRstn (straps : BitVec 2) (s : State) : State :=
  s.powerOn (Config.linkBBase + straps.setWidth 7)

/-- RSTN_RELEASE. -/
def execRstnRelease (straps : BitVec 2) (s : State) : Host.Outcome State Fault Refusal :=
  .next (releaseRstn straps s)

end Sys2Proof.Machine
end

