-- ==== Sys2Proof/Machine/BusEvents.lean ====
section
/-! DEFINITION. The events of a port's bus (R70, R73 to R77, R85 to R96, R101, R133, R134). An event that the work in
hand does not admit leaves the state as it is (log 27). -/
namespace Sys2Proof.Machine

/-- The phase under way has ended with STOP (R85). -/
def endPhase (p : Port) (s : State) : State :=
  releaseLines p (s.setEngine p { s.engine p with phase := none })

/-- The engine goes on with other work. -/
def continueWork (p : Port) (w : Work) (s : State) : State :=
  s.setEngine p { s.engine p with work := some w }

/-- The engine's open channel is set. -/
def setOpen (p : Port) (o : OpenChannel) (s : State) : State :=
  s.setEngine p { s.engine p with openChannel := o }

/-- The end of a phase is a byte boundary: an abort that waits for one is made there (R133; log 18); otherwise the end
has its own effect. -/
def atBoundary (p : Port) (own : State → State) (s : State) : State :=
  if (s.engine p).abortPending then complete p .abortedInhibit [] s else own s

/-! ### The start of a phase -/

/-- The bus is free, but for the gap (R86). -/
def Lines.free (x : Lines) : Bool :=
  x.scl && x.sda && !x.otherMaster

/-- A phase begins, when one is to begin and the bus has been free for the gap of its speed class (R72, R85, R86;
log 21). Its START pulls the data line low. -/
def startPhase (p : Port) (s : State) : State :=
  match s.nextPhase? p with
  | some ph =>
    if (s.engine p).phase.isNone && (s.line p).free then
      let t := s.upTo ((s.line p).since + ph.speed.gap)
      putLines p true false false (t.setEngine p { t.engine p with phase := some ph })
    else s
  | none => s

/-- PHASE_START. -/
def execPhaseStart (p : Port) (s : State) : Host.Outcome State Fault Refusal :=
  .next (startPhase p s)

/-! ### Selection -/

/-- The step after an acknowledged selection write (R65). -/
def State.nextSelection (s : State) (t : Txn) : List SelectionWrite → Work
  | [] => s.afterSelection t
  | w :: rest => .selecting t.slot (w :: rest)

/-- A selection write has been acknowledged (R65, R70). -/
def acknowledgeWrite (p : Port) (s : State) : State :=
  match s.activeTxn? p, (s.engine p).work with
  | some t, some (.selecting _ (w :: rest)) =>
    settle [] s (atBoundary p (fun u => continueWork p (u.nextSelection t rest) u)
      (endPhase p (setOpen p w.opens s)))
  | _, _ => s

/-- SELECTION_WRITE_ACK. -/
def execSelectionWriteAck (p : Port) (s : State) : Host.Outcome State Fault Refusal :=
  .next (acknowledgeWrite p s)

/-- A selection write whose address or mask byte is not acknowledged (R73). Where an INHIBIT abort waits for the byte
boundary, the abort is made instead and no SEGMENT_FAULT attention is raised: DESIGN CHOICE (log 18). -/
def failSelection (p : Port) (s : State) : State :=
  match s.activeTxn? p, (s.engine p).work with
  | some t, some (.selecting _ _) =>
    settle [] s (atBoundary p
      (fun u => complete p .segmentFault [] (raiseBoth .segmentFault (.segment t.snapshot.segment) u)) (endPhase p s))
  | _, _ => s

/-- SEGMENT_FAULT. -/
def execSegmentFault (p : Port) (s : State) : Host.Outcome State Fault Refusal :=
  .next (failSelection p s)

/-! ### Recovery polls -/

/-- The write-busy field of a record is replaced. -/
def setWriteBusy (h : Handle) (w : Option WriteBusy) (s : State) : State :=
  match s.record? h with
  | some r => s.setRuntime h { r.runtime with writeBusy := w }
  | none => s

/-- The write-busy field of a record. -/
def State.writeBusy? (s : State) (h : Handle) : Option WriteBusy :=
  (s.record? h).bind fun r => r.runtime.writeBusy

/-- A POLL form is removed (R101, R102; log 32). -/
def removePoll (h : Handle) (s : State) : State :=
  match s.writeBusy? h with
  | some (.poll _ _) => setWriteBusy h none s
  | _ => s

/-- A recovery poll is acknowledged (R75, R101). -/
def acknowledgePoll (p : Port) (s : State) : State :=
  match s.activeTxn? p, (s.engine p).work with
  | some t, some (.polling _) =>
    settle [] s (atBoundary p (fun u => continueWork p (.transferring t.slot) (removePoll t.handle u)) (endPhase p s))
  | _, _ => s

/-- RECOVERY_POLL_ACK. -/
def execRecoveryPollAck (p : Port) (s : State) : Host.Outcome State Fault Refusal :=
  .next (acknowledgePoll p s)

/-- The record enters poll-wait for tPOLL where it has a POLL form to carry it (R101, R102). -/
def startPollWait (h : Handle) (s : State) : State :=
  match s.writeBusy? h with
  | some (.poll windowEnd _) => setWriteBusy h (some (.poll windowEnd (some (s.after Config.tPoll)))) s
  | _ => s

/-- The ACTIVE transaction returns to QUEUED at its place in the order of admission (R55, R66, R75). When its deadline
has passed it is completed DEADLINE_EXPIRED at the return (R55; log 17). -/
def requeue (p : Port) (t : Txn) (s : State) : State :=
  let u := s.setEngine p { s.engine p with work := none }
  if t.deadline ≤ u.now then removeExamined t (some .deadlineExpired) u else u

/-- A recovery poll is not acknowledged (R75, R101): the engine enabled, or DISABLING. -/
def refusePoll (p : Port) (t : Txn) (s : State) : State :=
  let u := startPollWait t.handle s
  if (u.engine p).config.enable then requeue p t u else complete p .cancelledDisable [] u

/-- RECOVERY_POLL_NACK (R75). -/
def nackPoll (p : Port) (s : State) : State :=
  match s.activeTxn? p, (s.engine p).work with
  | some t, some (.polling _) => settle [] s (atBoundary p (refusePoll p t) (endPhase p s))
  | _, _ => s

/-- RECOVERY_POLL_NACK. -/
def execRecoveryPollNack (p : Port) (s : State) : Host.Outcome State Fault Refusal :=
  .next (nackPoll p s)

/-! ### Transfers -/

/-- The bytes of an OK READ: as many as its length, with 0xFF where the device drove nothing (R87; log 19). -/
def Txn.received (t : Txn) (data : List Byte) : List Byte :=
  let n := t.length.getD 0
  data.take n ++ List.replicate (n - data.length) 0xFF

/-- A transfer reaches its closing STOP with every byte acknowledged (R87). -/
def finishTransfer (p : Port) (data : List Byte) (s : State) : State :=
  match s.activeTxn? p, (s.engine p).work with
  | some t, some (.transferring _) =>
    settle [] s (atBoundary p (complete p .ok (t.received data)) (endPhase p s))
  | _, _ => s

/-- TRANSFER_COMPLETE. -/
def execTransferComplete (p : Port) (data : List Byte) (s : State) : Host.Outcome State Fault Refusal :=
  .next (finishTransfer p data s)

/-- An address NACK below the retry limit starts a new attempt (R89). -/
def retry (t : Txn) (s : State) : State :=
  s.setTxn { t with retries := t.retries + 1 }

/-- An address byte of a transfer is not acknowledged (R89). -/
def nackAddress (p : Port) (s : State) : State :=
  match s.activeTxn? p, (s.engine p).work with
  | some t, some (.transferring _) =>
    settle [] s (atBoundary p
      (if t.retries < t.snapshot.retryLimit then retry t else complete p .addressNack []) (endPhase p s))
  | _, _ => s

/-- ADDRESS_NACK. -/
def execAddressNack (p : Port) (s : State) : Host.Outcome State Fault Refusal :=
  .next (nackAddress p s)

/-- An index or data byte of a transfer is not acknowledged (R90). -/
def nackData (p : Port) (s : State) : State :=
  match s.activeTxn? p, (s.engine p).work with
  | some t, some (.transferring _) =>
    if sendsBytes t then settle [] s (atBoundary p (complete p .dataNack []) (endPhase p s)) else s
  | _, _ => s

/-- DATA_NACK. -/
def execDataNack (p : Port) (s : State) : Host.Outcome State Fault Refusal :=
  .next (nackData p s)

/-! ### Arbitration and held lines -/

/-- The engine stops driving, and waits from now on (R91, R93). The transfer of the master that won goes on until its
STOP, though the engine has not observed a START of it apart from its own: DEDUCED (R86; log 35). The clock line is then
high and the data line low, wherever the loss has occurred: DESIGN CHOICE (log 38). -/
def yieldBus (p : Port) (s : State) : State :=
  putLines p true false true (s.setEngine p { s.engine p with phase := none, since := s.now })

/-- A loss is counted in the transaction while it has lost fewer than four times (R91, step 2). -/
def countLoss (t : Txn) (s : State) : State :=
  if t.losses < Config.lossesPerTransaction then s.setTxn { t with losses := t.losses + 1 } else s

/-- What follows a loss that has been counted: a new attempt, or the end of a transaction that had lost four times
(R91, steps 2 and 3). -/
def afterLoss (p : Port) (t : Txn) (s : State) : State :=
  if t.losses < Config.lossesPerTransaction then s else complete p .arbitrationLost [] s

/-- The engine loses arbitration (R74, R91). The loss is counted whatever follows it. -/
def loseArbitration (p : Port) (s : State) : State :=
  match s.activeTxn? p with
  | some t => settle [] s (atBoundary p (afterLoss p t) (countLoss t (reportLoss p (yieldBus p s))))
  | none => s

/-- ARBITRATION_LOSS. -/
def execArbitrationLoss (p : Port) (s : State) : Host.Outcome State Fault Refusal :=
  .next (loseArbitration p s)

/-- The answer of a manual clear (R78, R96). -/
def answerClear (kind : ClearKind) (free : Bool) (s : State) : State :=
  match kind with
  | .manual (some (l, tag)) => answer l tag (if free then .ok else .busStuck) s
  | _ => s

/-- The engine after a bus clear (R77, R78). -/
def Engine.afterClear (e : Engine) : Engine :=
  { e with work := none, phase := none, openChannel := .unknown }

/-- A bus clear ends, its lines as they are then (R77, R78, R96). -/
def endClear (p : Port) (kind : ClearKind) (free : Bool) (s : State) : State :=
  answerClear kind free (s.setEngine p (s.engine p).afterClear)

/-- The clock line is low, held by a device, until its hold reaches the stretch limit (R92). The engine releases both
lines (R94); the data line keeps the level it shows, low where the phase's START was the last that was seen of it, until
a change of the lines is reported: DESIGN CHOICE (log 26). -/
def holdClock (p : Port) (s : State) : State :=
  (putLines p false (s.line p).sda (s.line p).otherMaster s).upTo (s.stretchExpiry p)

/-- A clock line held low reaches the stretch limit (R92, R94): BUS_STUCK, or, in a bus clear, its end HELD (R95). -/
def reachStretchLimit (p : Port) (s : State) : State :=
  match (s.engine p).work with
  | some (.clearing kind) => settle [] s (endClear p kind false (holdClock p s))
  | some _ => settle [] s (completeStuck p (holdClock p s))
  | none => s

/-- STRETCH_LIMIT. -/
def execStretchLimit (p : Port) (s : State) : Host.Outcome State Fault Refusal :=
  .next (reachStretchLimit p s)

/-- The clock line is high and the data line low, until the hold reaches tSDA (R93; log 36). -/
def holdData (p : Port) (s : State) : State :=
  (putLines p true false (s.line p).otherMaster s).upTo (s.sdaExpiry p)

/-- The data line stays low for tSDA before a START (R93, R94). -/
def reachSdaLimit (p : Port) (s : State) : State :=
  let e := s.engine p
  if e.activeSlot?.isSome && e.phase.isNone then settle [] s (completeStuck p (holdData p s)) else s

/-- SDA_LOW_LIMIT. -/
def execSdaLowLimit (p : Port) (s : State) : Host.Outcome State Fault Refusal :=
  .next (reachSdaLimit p s)

/-- The sequence of a bus clear ends (R77, R78, R95; log 20). It moves no clock: DESIGN CHOICE (log 39). -/
def finishClear (p : Port) (reading : ClearReading) (s : State) : State :=
  match (s.engine p).work with
  | some (.clearing kind) => settle [] s (endClear p kind (clearFree reading) (clearedLines p reading s))
  | _ => s

/-- BUS_CLEAR_END. -/
def execBusClearEnd (p : Port) (reading : ClearReading) (s : State) : Host.Outcome State Fault Refusal :=
  .next (finishClear p reading s)

/-! ### The INHIBIT abort -/

/-- A mask byte that had been acknowledged before the STOP counts as acknowledged (R134). -/
def abortedOpen (e : Engine) (maskAcked : Bool) : OpenChannel :=
  match e.work, maskAcked with
  | some (.selecting _ (w :: _)), true => w.opens
  | _, _ => e.openChannel

/-- The byte boundary of an INHIBIT abort comes (R88, R133, R134). -/
def abortAtBoundary (p : Port) (maskAcked : Bool) (s : State) : State :=
  let e := s.engine p
  if e.abortPending then
    settle [] s (complete p .abortedInhibit [] (endPhase p (setOpen p (abortedOpen e maskAcked) s)))
  else s

/-- INHIBIT_ABORT. -/
def execInhibitAbort (p : Port) (maskAcked : Bool) (s : State) : Host.Outcome State Fault Refusal :=
  .next (abortAtBoundary p maskAcked s)

end Sys2Proof.Machine
end

