-- ==== Sys2Proof/Machine/Timers.lean ====
section
/-! DEFINITION. The expiries of the Directory's recovery timers and of the containment units, and the pins that the
units watch (R100, R102, R123 to R128). An expiry of a timer that does not run leaves the state as it is (log 2). -/
namespace Sys2Proof.Machine

/-- One tick of the clock with no command taken (log 1). -/
def idleStep (s : State) : State :=
  { s with now := s.now + 1 }

/-- The port of a record, told of the end of a form (R69). -/
def State.toldPorts (s : State) (h : Handle) : List Port :=
  ((s.record? h).map fun r => s.portOf r.config).toList

/-- A TIMED form expires (R100). -/
def expireTimed (h : Handle) (s : State) : State :=
  match s.writeBusy? h with
  | some (.timed expiry) => settle (s.toldPorts h) s (setWriteBusy h none (s.upTo expiry))
  | _ => s

/-- TIMED_RECOVERY_EXPIRY. -/
def execTimedRecoveryExpiry (h : Handle) (s : State) : Host.Outcome State Fault Refusal :=
  .next (expireTimed h s)

/-- A poll-wait ends (R102): the POLL form stays. -/
def endPollWait (h : Handle) (s : State) : State :=
  match s.writeBusy? h with
  | some (.poll windowEnd (some waitEnd)) =>
    settle (s.toldPorts h) s (setWriteBusy h (some (.poll windowEnd none)) (s.upTo waitEnd))
  | _ => s

/-- POLL_WAIT_END. -/
def execPollWaitEnd (h : Handle) (s : State) : Host.Outcome State Fault Refusal :=
  .next (endPollWait h s)

/-- The window of a POLL form ends (R102): the form is removed, with any poll-wait end. -/
def endPollWindow (h : Handle) (s : State) : State :=
  match s.writeBusy? h with
  | some (.poll windowEnd _) => settle (s.toldPorts h) s (setWriteBusy h none (s.upTo windowEnd))
  | _ => s

/-- POLL_WINDOW_END. -/
def execPollWindowEnd (h : Handle) (s : State) : Host.Outcome State Fault Refusal :=
  .next (endPollWindow h s)

/-- The loss counter falls by one; the decay timer restarts while it is above 0 (R124), and ARBITRATION is cleared when
it comes to 0 (R125). -/
def decayStep (p : Port) (s : State) : State :=
  let u := s.unit p
  let n := u.losses - 1
  let t := s.setUnit p { u with losses := n, decay := if n = 0 then none else some (s.after Config.tDecay) }
  if n = 0 then leaveCause p .arbitration t else t

/-- The decay timer of a port expires (R124). -/
def expireDecay (p : Port) (s : State) : State :=
  match (s.unit p).decay with
  | some expiry => settle [] s (decayStep p (s.upTo expiry))
  | none => s

/-- DECAY_EXPIRY. -/
def execDecayExpiry (p : Port) (s : State) : Host.Outcome State Fault Refusal :=
  .next (expireDecay p s)

/-- The free-line measurement stops (R123). -/
def stopFreeLine (p : Port) (s : State) : State :=
  s.setUnit p { s.unit p with freeLine := .stopped }

/-- Both lines have been high together for tFREE: STUCK is cleared (R123). -/
def expireFreeLine (p : Port) (s : State) : State :=
  match (s.unit p).freeLine with
  | .high since => settle [] s (leaveCause p .stuck (stopFreeLine p (s.upTo (since + Config.ms Config.tFree))))
  | _ => s

/-- FREE_LINE_EXPIRY. -/
def execFreeLineExpiry (p : Port) (s : State) : Host.Outcome State Fault Refusal :=
  .next (expireFreeLine p s)

/-- Whether another master's transfer is in progress after a change of the lines (R85, R86): from a START that is not
the engine's own until the STOP that follows it. -/
def Lines.otherMasterAfter (x : Lines) (own scl sda : Bool) : Bool :=
  if x.scl && scl && x.sda && !sda && !own then true
  else if x.scl && scl && !x.sda && sda then false
  else x.otherMaster

/-- The lines of a port change (R86, R123). A START that is seen while a phase of the engine is under way, a bus clear
among them, is taken as its own: DESIGN CHOICE (log 40). -/
def changeLines (p : Port) (scl sda : Bool) (s : State) : State :=
  putLines p scl sda ((s.line p).otherMasterAfter (s.engine p).phase.isSome scl sda) s

/-- PORT_LINES_CHANGE. -/
def execPortLinesChange (p : Port) (scl sda : Bool) (s : State) : Host.Outcome State Fault Refusal :=
  .next (changeLines p scl sda s)

/-- The level of an inhibit input changes: the filter starts afresh (R126). -/
def changeInhibit (p : Port) (high : Bool) (s : State) : State :=
  let u := s.unit p
  if u.inhHigh = high then s else s.setUnit p { u with inhHigh := high, inhSince := s.now }

/-- INHIBIT_INPUT_CHANGE. -/
def execInhibitInputChange (p : Port) (high : Bool) (s : State) : Host.Outcome State Fault Refusal :=
  .next (changeInhibit p high s)

/-- The level seen and the presence of INHIBIT disagree: low with it absent, or high with it present (R126). -/
def Containment.filterRuns (u : Containment) : Bool :=
  u.inhHigh == u.causes.inhibit

/-- The inhibit input has held its level for tINH (R126). -/
def expireFilter (p : Port) (s : State) : State :=
  let u := s.unit p
  if u.filterRuns && !s.rstnLow then
    settle [] s (filterComplete p (s.upTo (u.inhSince + Config.ms (s.engine p).config.tInh)))
  else s

/-- INHIBIT_FILTER_EXPIRY. -/
def execInhibitFilterExpiry (p : Port) (s : State) : Host.Outcome State Fault Refusal :=
  .next (expireFilter p s)

/-- The holdoff timer expires (R127, R128). -/
def expireHoldoff (p : Port) (s : State) : State :=
  match (s.unit p).state with
  | .holdoff expiry => settle [] s (clearPort p (s.upTo expiry))
  | _ => s

/-- HOLDOFF_EXPIRY. -/
def execHoldoffExpiry (p : Port) (s : State) : Host.Outcome State Fault Refusal :=
  .next (expireHoldoff p s)

end Sys2Proof.Machine
end

