-- ==== Sys2Proof/Machine/Exchanges.lean ====
section
/-! DEFINITION. The exchanges of the two links (R167 to R173): PUT, GET, and the windows and writes that carry none. -/
namespace Sys2Proof.Machine

/-! ### PUT -/

/-- The kind bytes of the two resets (11.5), which are accepted whatever their tag (R169). -/
def isResetKind (kind : Byte) : Bool :=
  kind = 0x20 || kind = 0x21

/-- The request that a kind byte names (11.5); a kind that names none is answered BAD_PARAMETER (R171). -/
def takeKind (kind : Byte) (l : Link) (tag : Tag) (ps : List Byte) : State → State :=
  match kind.toNat with
  | 0x01 => takeQueryEndpoint l tag ps
  | 0x02 => takeLookup l tag ps
  | 0x03 => takeListEndpoints l tag ps
  | 0x04 => takeQuerySegment l tag ps
  | 0x05 => takeQueryGroup l tag ps
  | 0x06 => takeQueryDirectory l tag ps
  | 0x07 => takeOpenSession l tag ps
  | 0x08 => takeDiscardSession l tag ps
  | 0x09 => takeAddEndpoint l tag ps
  | 0x0A => takeModifyEndpoint l tag ps
  | 0x0B => takeRetireEndpoint l tag ps
  | 0x0C => takeAddSegment l tag ps
  | 0x0D => takeRetireSegment l tag ps
  | 0x0E => takeSetGroup l tag ps
  | 0x0F => takeCommit l tag ps
  | 0x10 => takeAbortCommit l tag ps
  | 0x11 => takeTransact l tag ps
  | 0x12 => takeRelease l tag ps
  | 0x13 => takeQuarantine l tag ps
  | 0x14 => takeClearScore l tag ps
  | 0x15 => takeReserve l tag ps
  | 0x16 => takeUnreserve l tag ps
  | 0x17 => takeGroupTransact l tag ps
  | 0x18 => takeConfigurePort l tag ps
  | 0x19 => takeQueryPort l tag ps
  | 0x1A => takeClearBus l tag ps
  | 0x1B => takeResumePort l tag ps
  | 0x1C => takeIdentify l tag ps
  | 0x1D => takeConfigureLink l tag ps
  | 0x1E => takeConfigureDevice l tag ps
  | 0x1F => takeGetAttention l tag ps
  | 0x20 => takeLinkReset l tag
  | 0x21 => takeSoftReset l tag
  | _ => answer l tag .badParameter

/-- A frame that has ended on a link (R169): dropped, or its request taken. -/
def takePut (l : Link) (bytes : List Byte) (s : State) : State :=
  match parseFrame bytes with
  | none => dropFrame l s
  | some (kind, tag, ps) =>
    if isResetKind kind then takeKind kind l tag ps s else takeFrame l tag (takeKind kind l tag ps) s

/-- A bus write of Link B without a data byte is not a PUT (R168; log 30). -/
def carriesNothing (l : Link) (bytes : List Byte) : Bool :=
  decide (l = .b) && bytes.isEmpty

/-- PUT (R169). While RSTN is low no exchange is taken (R182). -/
def exchangePut (l : Link) (bytes : List Byte) (s : State) : State :=
  if s.rstnLow || carriesNothing l bytes then s else takePut l bytes (clockPut l bytes.length s)

/-- PUT. -/
def execPut (l : Link) (bytes : List Byte) (s : State) : Host.Outcome State Fault Refusal :=
  .next (exchangePut l bytes s)

/-! ### GET -/

/-- The copy that a GET sends (R172): of the head of the queue, or the EMPTY frame. -/
def LinkState.copy (i : LinkState) : GetInProgress :=
  match i.queue with
  | [] => { copy := emptyFrame, fromHead := false }
  | r :: _ => { copy := responseFrame r, fromHead := true }

/-- A GET starts (R172; log 33). -/
def LinkState.startGet (i : LinkState) : LinkState :=
  { i with getting := some i.copy }

/-- A GET ends after so many bytes (R167, R168, R172, R173): the head entry is removed when every byte of its copy has
been sent and it still stands. -/
def LinkState.finishGet (i : LinkState) (clocked : Nat) : LinkState :=
  match i.getting with
  | some g =>
    { i with
      getting := none
      sent := clockedOut g.copy clocked
      queue := if g.fromHead && decide (g.copy.length ≤ clocked) then i.queue.tail else i.queue }
  | none => i

/-- A GET, or a part of it (log 5). -/
def LinkState.get (i : LinkState) (part : GetPart) : LinkState :=
  match part with
  | .start => i.startGet
  | .finish clocked => i.finishGet clocked
  | .whole clocked => i.startGet.finishGet clocked

/-- GET (R172). While RSTN is low no exchange is taken (R182). -/
def exchangeGet (l : Link) (part : GetPart) (s : State) : State :=
  if s.rstnLow then s else s.setLink l ((s.link l).get part)

/-- GET. -/
def execGet (l : Link) (part : GetPart) (s : State) : Host.Outcome State Fault Refusal :=
  .next (exchangeGet l part s)

/-! ### Windows and writes that carry no exchange -/

/-- A window of Link A with a direction byte that is neither PUT nor GET (R167). -/
def badDirection (direction : Byte) (s : State) : State :=
  if s.rstnLow || decide (direction = Config.putByte) || decide (direction = Config.getByte) then s
  else dropFrame .a s

/-- BAD_DIRECTION_WINDOW. -/
def execBadDirectionWindow (direction : Byte) (s : State) : Host.Outcome State Fault Refusal :=
  .next (badDirection direction s)

/-- ADDRESS_ONLY_WRITE (R168): a write with no data byte is ignored, and no count or attention results, whether the
address is the part's own or another. -/
def execAddressOnlyWrite (_address : BusAddress) (s : State) : Host.Outcome State Fault Refusal :=
  .next s

/-- WINDOW_WITH_NO_WHOLE_BYTE (R167): it is ignored, and no count or attention results. -/
def execWindowWithNoWholeByte (s : State) : Host.Outcome State Fault Refusal :=
  .next s

end Sys2Proof.Machine
end

