-- ==== Sys2Proof/Machine/Dispatch.lean ====
section
/-! DEFINITION. The meaning of each command: one arm per constructor of Instr. -/
namespace Sys2Proof.Machine

def exec (i : Instr) (s : State) : Host.Outcome State Fault Refusal :=
  match i with
  | .put l bytes => Sys2Proof.Machine.execPut l bytes s
  | .get l part => Sys2Proof.Machine.execGet l part s
  | .badDirectionWindow direction => Sys2Proof.Machine.execBadDirectionWindow direction s
  | .addressOnlyWrite address => Sys2Proof.Machine.execAddressOnlyWrite address s
  | .queryEndpoint l tag ps => Sys2Proof.Machine.execQueryEndpoint l tag ps s
  | .lookup l tag ps => Sys2Proof.Machine.execLookup l tag ps s
  | .listEndpoints l tag ps => Sys2Proof.Machine.execListEndpoints l tag ps s
  | .querySegment l tag ps => Sys2Proof.Machine.execQuerySegment l tag ps s
  | .queryGroup l tag ps => Sys2Proof.Machine.execQueryGroup l tag ps s
  | .queryDirectory l tag ps => Sys2Proof.Machine.execQueryDirectory l tag ps s
  | .openSession l tag ps => Sys2Proof.Machine.execOpenSession l tag ps s
  | .discardSession l tag ps => Sys2Proof.Machine.execDiscardSession l tag ps s
  | .addEndpoint l tag ps => Sys2Proof.Machine.execAddEndpoint l tag ps s
  | .modifyEndpoint l tag ps => Sys2Proof.Machine.execModifyEndpoint l tag ps s
  | .retireEndpoint l tag ps => Sys2Proof.Machine.execRetireEndpoint l tag ps s
  | .addSegment l tag ps => Sys2Proof.Machine.execAddSegment l tag ps s
  | .retireSegment l tag ps => Sys2Proof.Machine.execRetireSegment l tag ps s
  | .setGroup l tag ps => Sys2Proof.Machine.execSetGroup l tag ps s
  | .commit l tag ps => Sys2Proof.Machine.execCommit l tag ps s
  | .abortCommit l tag ps => Sys2Proof.Machine.execAbortCommit l tag ps s
  | .sessionExpired => Sys2Proof.Machine.execSessionExpired s
  | .commitDeadline => Sys2Proof.Machine.execCommitDeadline s
  | .transact l tag ps => Sys2Proof.Machine.execTransact l tag ps s
  | .release l tag ps => Sys2Proof.Machine.execRelease l tag ps s
  | .quarantine l tag ps => Sys2Proof.Machine.execQuarantine l tag ps s
  | .clearScore l tag ps => Sys2Proof.Machine.execClearScore l tag ps s
  | .reserve l tag ps => Sys2Proof.Machine.execReserve l tag ps s
  | .unreserve l tag ps => Sys2Proof.Machine.execUnreserve l tag ps s
  | .reservationExpired h => Sys2Proof.Machine.execReservationExpired h s
  | .groupTransact l tag ps => Sys2Proof.Machine.execGroupTransact l tag ps s
  | .contextDeadline c => Sys2Proof.Machine.execContextDeadline c s
  | .configurePort l tag ps => Sys2Proof.Machine.execConfigurePort l tag ps s
  | .queryPort l tag ps => Sys2Proof.Machine.execQueryPort l tag ps s
  | .clearBus l tag ps => Sys2Proof.Machine.execClearBus l tag ps s
  | .resumePort l tag ps => Sys2Proof.Machine.execResumePort l tag ps s
  | .identify l tag ps => Sys2Proof.Machine.execIdentify l tag ps s
  | .configureLink l tag ps => Sys2Proof.Machine.execConfigureLink l tag ps s
  | .configureDevice l tag ps => Sys2Proof.Machine.execConfigureDevice l tag ps s
  | .getAttention l tag ps => Sys2Proof.Machine.execGetAttention l tag ps s
  | .linkReset l tag ps => Sys2Proof.Machine.execLinkReset l tag ps s
  | .softReset l tag ps => Sys2Proof.Machine.execSoftReset l tag ps s
  | .rstnAssert => Sys2Proof.Machine.execRstnAssert s
  | .rstnRelease straps => Sys2Proof.Machine.execRstnRelease straps s
  | .phaseStart p => Sys2Proof.Machine.execPhaseStart p s
  | .selectionWriteAck p => Sys2Proof.Machine.execSelectionWriteAck p s
  | .segmentFault p => Sys2Proof.Machine.execSegmentFault p s
  | .recoveryPollAck p => Sys2Proof.Machine.execRecoveryPollAck p s
  | .recoveryPollNack p => Sys2Proof.Machine.execRecoveryPollNack p s
  | .transferComplete p data => Sys2Proof.Machine.execTransferComplete p data s
  | .addressNack p => Sys2Proof.Machine.execAddressNack p s
  | .dataNack p => Sys2Proof.Machine.execDataNack p s
  | .arbitrationLoss p => Sys2Proof.Machine.execArbitrationLoss p s
  | .stretchLimit p => Sys2Proof.Machine.execStretchLimit p s
  | .sdaLowLimit p => Sys2Proof.Machine.execSdaLowLimit p s
  | .busClearEnd p reading => Sys2Proof.Machine.execBusClearEnd p reading s
  | .transactionDeadline slot => Sys2Proof.Machine.execTransactionDeadline slot s
  | .timedRecoveryExpiry h => Sys2Proof.Machine.execTimedRecoveryExpiry h s
  | .pollWaitEnd h => Sys2Proof.Machine.execPollWaitEnd h s
  | .pollWindowEnd h => Sys2Proof.Machine.execPollWindowEnd h s
  | .decayExpiry p => Sys2Proof.Machine.execDecayExpiry p s
  | .freeLineExpiry p => Sys2Proof.Machine.execFreeLineExpiry p s
  | .portLinesChange p scl sda => Sys2Proof.Machine.execPortLinesChange p scl sda s
  | .inhibitInputChange p high => Sys2Proof.Machine.execInhibitInputChange p high s
  | .inhibitFilterExpiry p => Sys2Proof.Machine.execInhibitFilterExpiry p s
  | .holdoffExpiry p => Sys2Proof.Machine.execHoldoffExpiry p s
  | .inhibitAbort p maskAcked => Sys2Proof.Machine.execInhibitAbort p maskAcked s
  | .windowWithNoWholeByte => Sys2Proof.Machine.execWindowWithNoWholeByte s

end Sys2Proof.Machine
end

