-- ==== Sys2Proof/Safety.lean ====
section
/-! DEFINITION. What statements about the part are said with: the acceptance of a request and its answer as closed
forms, and the invariants that every step keeps. -/
namespace Sys2Proof
open Machine

/-! ### Requests as commands -/

/-- The request row that a kind byte names (11.5). -/
def requestOf (kind : Byte) (l : Link) (tag : Tag) (ps : List Byte) : Option Instr :=
  match kind.toNat with
  | 0x01 => some (.queryEndpoint l tag ps)
  | 0x02 => some (.lookup l tag ps)
  | 0x03 => some (.listEndpoints l tag ps)
  | 0x04 => some (.querySegment l tag ps)
  | 0x05 => some (.queryGroup l tag ps)
  | 0x06 => some (.queryDirectory l tag ps)
  | 0x07 => some (.openSession l tag ps)
  | 0x08 => some (.discardSession l tag ps)
  | 0x09 => some (.addEndpoint l tag ps)
  | 0x0A => some (.modifyEndpoint l tag ps)
  | 0x0B => some (.retireEndpoint l tag ps)
  | 0x0C => some (.addSegment l tag ps)
  | 0x0D => some (.retireSegment l tag ps)
  | 0x0E => some (.setGroup l tag ps)
  | 0x0F => some (.commit l tag ps)
  | 0x10 => some (.abortCommit l tag ps)
  | 0x11 => some (.transact l tag ps)
  | 0x12 => some (.release l tag ps)
  | 0x13 => some (.quarantine l tag ps)
  | 0x14 => some (.clearScore l tag ps)
  | 0x15 => some (.reserve l tag ps)
  | 0x16 => some (.unreserve l tag ps)
  | 0x17 => some (.groupTransact l tag ps)
  | 0x18 => some (.configurePort l tag ps)
  | 0x19 => some (.queryPort l tag ps)
  | 0x1A => some (.clearBus l tag ps)
  | 0x1B => some (.resumePort l tag ps)
  | 0x1C => some (.identify l tag ps)
  | 0x1D => some (.configureLink l tag ps)
  | 0x1E => some (.configureDevice l tag ps)
  | 0x1F => some (.getAttention l tag ps)
  | 0x20 => some (.linkReset l tag ps)
  | 0x21 => some (.softReset l tag ps)
  | _ => none

/-- The link, the tag and the parameter block of a request. -/
def Instr.request? : Instr → Option (Link × Tag × List Byte)
  | .queryEndpoint l tag ps => some (l, tag, ps)
  | .lookup l tag ps => some (l, tag, ps)
  | .listEndpoints l tag ps => some (l, tag, ps)
  | .querySegment l tag ps => some (l, tag, ps)
  | .queryGroup l tag ps => some (l, tag, ps)
  | .queryDirectory l tag ps => some (l, tag, ps)
  | .openSession l tag ps => some (l, tag, ps)
  | .discardSession l tag ps => some (l, tag, ps)
  | .addEndpoint l tag ps => some (l, tag, ps)
  | .modifyEndpoint l tag ps => some (l, tag, ps)
  | .retireEndpoint l tag ps => some (l, tag, ps)
  | .addSegment l tag ps => some (l, tag, ps)
  | .retireSegment l tag ps => some (l, tag, ps)
  | .setGroup l tag ps => some (l, tag, ps)
  | .commit l tag ps => some (l, tag, ps)
  | .abortCommit l tag ps => some (l, tag, ps)
  | .transact l tag ps => some (l, tag, ps)
  | .release l tag ps => some (l, tag, ps)
  | .quarantine l tag ps => some (l, tag, ps)
  | .clearScore l tag ps => some (l, tag, ps)
  | .reserve l tag ps => some (l, tag, ps)
  | .unreserve l tag ps => some (l, tag, ps)
  | .groupTransact l tag ps => some (l, tag, ps)
  | .configurePort l tag ps => some (l, tag, ps)
  | .queryPort l tag ps => some (l, tag, ps)
  | .clearBus l tag ps => some (l, tag, ps)
  | .resumePort l tag ps => some (l, tag, ps)
  | .identify l tag ps => some (l, tag, ps)
  | .configureLink l tag ps => some (l, tag, ps)
  | .configureDevice l tag ps => some (l, tag, ps)
  | .getAttention l tag ps => some (l, tag, ps)
  | .linkReset l tag ps => some (l, tag, ps)
  | .softReset l tag ps => some (l, tag, ps)
  | _ => none

/-- A request's parameter block passes its parameter check (R187); the two resets do not read theirs. -/
def Instr.blockReads : Instr → Bool
  | .queryEndpoint _ _ ps => (queryEndpointBlock? ps).isSome
  | .lookup _ _ ps => (lookupBlock? ps).isSome
  | .listEndpoints _ _ ps => (listBlock? ps).isSome
  | .querySegment _ _ ps => (numberViewBlock? 31 ps).isSome
  | .queryGroup _ _ ps => (numberViewBlock? 15 ps).isSome
  | .queryDirectory _ _ ps => (emptyBlock? ps).isSome
  | .openSession _ _ ps => (emptyBlock? ps).isSome
  | .discardSession _ _ ps => (emptyBlock? ps).isSome
  | .addEndpoint _ _ ps => (recordBlock? ps).isSome
  | .modifyEndpoint _ _ ps => (modifyBlock? ps).isSome
  | .retireEndpoint _ _ ps => (handleBlock? ps).isSome
  | .addSegment _ _ ps => (segmentBlock? ps).isSome
  | .retireSegment _ _ ps => (retireSegmentBlock? ps).isSome
  | .setGroup _ _ ps => (setGroupBlock? ps).isSome
  | .commit _ _ ps => (commitBlock? ps).isSome
  | .abortCommit _ _ ps => (emptyBlock? ps).isSome
  | .transact _ _ ps => (transactBlock? ps).isSome
  | .release _ _ ps => (handleBlock? ps).isSome
  | .quarantine _ _ ps => (handleBlock? ps).isSome
  | .clearScore _ _ ps => (handleBlock? ps).isSome
  | .reserve _ _ ps => (reserveBlock? ps).isSome
  | .unreserve _ _ ps => (handleBlock? ps).isSome
  | .groupTransact _ _ ps => (groupTransactBlock? ps).isSome
  | .configurePort _ _ ps => (configurePortBlock? ps).isSome
  | .queryPort _ _ ps => (portBlock? ps).isSome
  | .clearBus _ _ ps => (portBlock? ps).isSome
  | .resumePort _ _ ps => (portBlock? ps).isSome
  | .identify _ _ ps => (emptyBlock? ps).isSome
  | .configureLink _ _ ps => (configureLinkBlock? ps).isSome
  | .configureDevice _ _ ps => (configureDeviceBlock? ps).isSome
  | .getAttention _ _ ps => (emptyBlock? ps).isSome
  | _ => true

/-- The two reset requests. -/
def Instr.isReset : Instr → Bool
  | .linkReset _ _ _ => true
  | .softReset _ _ _ => true
  | _ => false

/-- The requests that R28 admits from the holder in OPEN alone: the staged edits, DISCARD_SESSION and COMMIT. -/
def Instr.needsOpen : Instr → Bool
  | .discardSession _ _ _ => true
  | .addEndpoint _ _ _ => true
  | .modifyEndpoint _ _ _ => true
  | .retireEndpoint _ _ _ => true
  | .addSegment _ _ _ => true
  | .retireSegment _ _ _ => true
  | .setGroup _ _ _ => true
  | .commit _ _ _ => true
  | _ => false

/-- A query that names the staging view (R15). -/
def Instr.namesStaging : Instr → Bool
  | .queryEndpoint _ _ ps => (queryEndpointBlock? ps).any fun x => decide (x.2 = .staging)
  | .lookup _ _ ps => (lookupBlock? ps).any fun x => decide (x.1 = .staging)
  | .listEndpoints _ _ ps => (listBlock? ps).any fun x => decide (x.1 = .staging)
  | .querySegment _ _ ps => (numberViewBlock? 31 ps).any fun x => decide (x.2 = .staging)
  | .queryGroup _ _ ps => (numberViewBlock? 15 ps).any fun x => decide (x.2 = .staging)
  | _ => false

/-- A command of the reset pin. -/
def Instr.isRstn : Instr → Bool
  | .rstnAssert => true
  | .rstnRelease _ => true
  | _ => false

end Sys2Proof

namespace Sys2Proof.Machine

/-! ### Requests -/

/-- A frame with this tag and block is accepted on the link (R169, R182). -/
abbrev State.accepts (s : State) (l : Link) (tag : Tag) (ps : List Byte) : Prop :=
  s.rstnLow = false ∧ (s.link l).tagInUse tag = false ∧ ps.length ≤ Config.parameterBytes

/-- What the link puts out during the PUT of a request with this block: 0xFF for the direction byte and for each of the
frame's bytes (R167; log 6). -/
def putOut (l : Link) (ps : List Byte) : List Byte :=
  match l with
  | .a => List.replicate (ps.length + 5) 0xFF
  | .b => []

/-- The state in which an accepted request is taken: its tag is outstanding (R169). -/
def State.accepted (s : State) (l : Link) (tag : Tag) (ps : List Byte) : State :=
  s.setLink l { s.link l with outstanding := (s.link l).outstanding ++ [tag], sent := putOut l ps }

/-- The state after an accepted request that was answered at once and did nothing else: its response is at the tail of
the link's queue (R171). Everything that is not named is as it was. -/
def State.answered (s : State) (l : Link) (tag : Tag) (ps : List Byte) (status : Status) (payload : List Byte) :
    State :=
  s.setLink l { s.link l with queue := (s.link l).queue ++ [⟨tag, status, payload⟩], sent := putOut l ps }

/-- The work in hand is for the ACTIVE transaction in this slot. -/
abbrev State.active (s : State) (p : Port) (t : Txn) (w : Work) : Prop :=
  (s.engine p).work = some w ∧ s.activeTxn? p = some t

/-- The view that a query of this link reads (R13, R15). -/
def State.view? (s : State) (l : Link) : View → Option Configuration
  | .committed => some s.committed
  | .staging => if s.session.holder? = some l then s.session.staging? else none

/-- The state after a frame has been dropped (R169): the frame error count and FRAME_ERROR of its link, and what the
link put out. -/
def State.dropped (s : State) (l : Link) (out : List Byte) : State :=
  s.setLink l { s.link l with
    frameErrors := min ((s.link l).frameErrors + 1) 255
    attention := (s.link l).attention.put 2 (.raised ((s.link l).attention.find 2) .none)
    sent := out }

/-- The attention entry that one more raise leaves on a link (R174). -/
def State.raisedEntry (s : State) (l : Link) (kind : AttentionKind) (subject : Subject) : AttentionEntry :=
  .raised ((s.link l).attention.find kind.num) subject

/-- The end of a transaction on this record touches nothing else: no member waits for a slot, and no armed commit
affects the record. -/
abbrev State.quiet (s : State) (h : Handle) : Prop :=
  s.waiting = [] ∧ s.commitPending h = false

/-- The transaction is a TRANSACT of a link, and no orphan. -/
abbrev Txn.answers (t : Txn) (l : Link) (tag : Tag) : Prop :=
  t.origin = .transact l tag ∧ t.orphan = false

/-- The payload of a TRANSACT response (R60, R185). -/
def Txn.result (t : Txn) (read : List Byte) : List Byte :=
  wordOf t.epoch.toNat ++ [byteOf t.retries, byteOf t.losses] ++ read

/-- The slot of a transaction is FREE again. -/
def State.withoutSlot (s : State) (slot : Nat) : State :=
  { s with pool := s.pool.filter fun t => decide (t.slot ≠ slot) }

/-- The engine has no work in hand: IDLE, or DISABLED where its enable is false (R76). -/
def Engine.atRest (e : Engine) : Engine :=
  { e with work := none, phase := none, abortPending := false }

/-- The port's ACTIVE transaction is a TRANSACT of the link whose record is in its table, and its end touches nothing
else. -/
abbrev State.runs (s : State) (p : Port) (t : Txn) (l : Link) (tag : Tag) (r : Record) : Prop :=
  s.activeTxn? p = some t ∧ t.answers l tag ∧ tag ∈ (s.link l).outstanding ∧ s.record? t.handle = some r ∧
    s.quiet t.handle

/-- The state after the completion of such a transaction (R59, R60): its engine is at rest, its slot FREE, its record
as given, and its response at the tail of its link's queue. -/
def State.completed (s : State) (p : Port) (t : Txn) (l : Link) (tag : Tag) (r : Record) (status : Status)
    (read : List Byte) : State :=
  { (s.withoutSlot t.slot).setEngine p (s.engine p).atRest with
    records := s.records.put t.handle.slot r
    links := s.links.set l { s.link l with
      outstanding := (s.link l).outstanding.erase tag
      queue := (s.link l).queue ++ [Response.mk tag status (t.result read)] } }

/-- The state after the end of a transaction that no link waits for (R59, R61): its engine is at rest, its slot FREE, and
its record as given. -/
def State.ended (s : State) (p : Port) (t : Txn) (r : Record) : State :=
  { (s.withoutSlot t.slot).setEngine p (s.engine p).atRest with records := s.records.put t.handle.slot r }

/-- A record with its fault score replaced. -/
def Record.withScore (r : Record) (score : Nat) : Record :=
  { r with runtime := { r.runtime with score := score } }

/-- A record with its write-busy field replaced. -/
def Record.withWriteBusy (r : Record) (w : Option WriteBusy) : Record :=
  { r with runtime := { r.runtime with writeBusy := w } }

/-- A record with its runtime state replaced. -/
def Record.withHealth (r : Record) (health : Health) : Record :=
  { r with runtime := { r.runtime with health := health } }

/-- An event that ends the transfer of a transaction on a port with an outcome, the bytes it delivers and the record it
leaves (R87, R89, R90, R97, R99): the closing STOP, DATA_NACK, or an address NACK with the retries used up; the last two
where the score stays below the threshold. Bytes the device does not drive read as 0xFF (log 19). -/
def State.endsTransfer (s : State) (p : Port) (t : Txn) (r : Record) (c : Instr) (o : Status) (read : List Byte)
    (after : Record) : Prop :=
  (∃ data, c = .transferComplete p data ∧ o = .ok ∧
    (read = if t.operation = .read then
      data.take (t.length.getD 0) ++ List.replicate (t.length.getD 0 - data.length) 0xFF else []) ∧
    after = (r.withScore (r.runtime.score - 1)).withWriteBusy (if t.operation = .write then
        match t.snapshot.recovery, r.config.recovery.window? with
        | .timed, some w => some (.timed (s.now + w * 10000))
        | .poll, some w => some (.poll (s.now + w * 10000) none)
        | _, _ => r.runtime.writeBusy
      else r.runtime.writeBusy)) ∨
  ((c = .dataNack p ∧ sendsBytes t = true ∧ o = .dataNack ∨
      c = .addressNack p ∧ t.snapshot.retryLimit ≤ t.retries ∧ o = .addressNack) ∧ read = [] ∧
    (r.runtime.health ≠ .active ∨ min (r.runtime.score + r.config.weight) 63 < r.config.threshold) ∧
    after = r.withScore (min (r.runtime.score + r.config.weight) 63))

/-! ### The commit point -/

/-- The record that a slot has after the commit point of a configuration part (R7, R43, R108): a fresh runtime part where
the record is new or its segment or bus address differs, and its own where they do not; then an ACTIVE record whose
score is at its threshold is QUARANTINED for BUDGET. -/
def State.recordAfterCommit (s : State) (slot : Nat) (c : EndpointConfig) : Record :=
  match s.records.find slot with
  | none => { config := c, runtime := { health := .active, score := 0, writeBusy := none } }
  | some r =>
    if r.config.segment ≠ c.segment ∨ r.config.address ≠ c.address then
      { config := c, runtime := { health := .active, score := 0, writeBusy := none } }
    else if r.runtime.health = .active ∧ c.threshold ≤ r.runtime.score then
      { config := c, runtime := { r.runtime with health := .quarantined .budget } }
    else { config := c, runtime := r.runtime }

/-- The four counts of the answer of a COMMIT (R43, R186): the records added, retired and route-changed, and those that
the re-check quarantines. -/
def State.commitCounts (s : State) (g : Configuration) : List Nat :=
  [(g.endpoints.filter fun e => (s.records.find e.1).isNone).length,
    (s.records.filter fun e => (g.endpoints.find e.1).isNone).length,
    (s.records.filter fun e => (g.endpoints.find e.1).any fun c =>
      decide (e.2.config.segment ≠ c.segment ∨ e.2.config.address ≠ c.address)).length,
    (s.records.filter fun e => (g.endpoints.find e.1).any fun c =>
      decide (e.2.config.segment = c.segment ∧ e.2.config.address = c.address ∧ e.2.runtime.health = .active ∧
        c.threshold ≤ e.2.runtime.score)).length]

/-- What a commit point does to the committed configuration, the epoch and the session (R43). -/
def State.commitsTo (s : State) (g : Configuration) (t : State) : Prop :=
  t.session = .absent ∧ t.epoch = s.epoch + 1 ∧ t.segments = g.segments ∧ t.groups = g.groups ∧
    ∀ n, (t.records.find n).map Record.config = g.endpoints.find n

/-- What else a commit point leaves, of a COMMIT of this link with this tag (R2, R7, R43, R108): the records with their
runtime parts, the generations, the OK response in the holder's queue, and DIRECTORY_CHANGED on the other link. -/
def State.answersCommit (s : State) (g : Configuration) (l : Link) (tag : Tag) (t : State) : Prop :=
  (∀ n c, g.endpoints.find n = some c → t.records.find n = some (s.recordAfterCommit n c)) ∧
  (∀ n, t.generation n =
    if (s.records.find n).isSome = true ∧ g.endpoints.find n = none then s.generation n + 1 else s.generation n) ∧
  (∃ before after, (t.link l).queue = (s.link l).queue ++ before ++
    [Response.mk tag .ok (wordOf (s.epoch + 1).toNat ++ (s.commitCounts g).map byteOf)] ++ after) ∧
  ((t.link l.other).attention.find 3).map AttentionEntry.subject = some .none

/-- A configuration part whose fields are in their ranges (R4, 1.2). -/
abbrev EndpointConfig.inRange (c : EndpointConfig) : Prop :=
  c.segment ≤ 31 ∧ 0x08 ≤ c.address.toNat ∧ c.address.toNat ≤ 0x77 ∧ c.indexWidth ≤ 3 ∧ c.retryLimit ≤ 7 ∧
    (∀ w, c.recovery.window? = some w → 1 ≤ w ∧ w ≤ 100) ∧ 1 ≤ c.weight ∧ c.weight ≤ 8 ∧ 1 ≤ c.threshold ∧
    c.threshold ≤ 63

/-- Every table of a configuration is in its canonical form. -/
def Configuration.sorted (g : Configuration) : Bool :=
  g.endpoints.sorted && g.segments.sorted && g.groups.sorted

/-- Every table of the state is in its canonical form: keys strictly rising. -/
def State.tablesSorted (s : State) : Prop :=
  s.records.sorted = true ∧ s.generations.sorted = true ∧ s.segments.sorted = true ∧ s.groups.sorted = true ∧
    s.contexts.sorted = true ∧ (∀ g, s.session.staging? = some g → g.sorted = true) ∧
    ∀ l, (s.link l).attention.sorted = true

/-! ### Invariants -/

/-- The outstanding tags of a link with the tags of its response queue (R170). -/
def LinkState.tags (i : LinkState) : List Tag :=
  i.outstanding ++ i.queue.map Response.tag

/-- On each link, the outstanding tags and the tags of responses in the response queue are distinct (R170). -/
def State.tagsDistinct (s : State) : Prop :=
  ∀ l, (s.link l).tags.Nodup

/-- The tag that a transaction of this link will answer, unless it is an orphan (R60, R61). -/
def Txn.tagOn? (t : Txn) (l : Link) : Option Tag :=
  if t.orphan then none
  else match t.origin with
    | .transact m tag => if m = l then some tag else none
    | .releaseProbe m tag => if m = l then some tag else none
    | .member _ _ => none

/-- The tag that an armed commit of this link will answer (R37). -/
def Session.tagOn? (x : Session) (l : Link) : Option Tag :=
  match x with
  | .armed m _ c => if m = l then some c.tag else none
  | _ => none

/-- The tag that a manual bus clear of this link will answer (R78). -/
def Work.tagOn? (w : Work) (l : Link) : Option Tag :=
  match w with
  | .clearing (.manual (some (m, tag))) => if m = l then some tag else none
  | _ => none

/-- The tags of a link that work in the part will answer: its transactions, contexts, armed commit and bus clears. -/
def State.owed (s : State) (l : Link) : List Tag :=
  (s.pool.filterMap fun t => t.tagOn? l) ++
    (s.contexts.filterMap fun e => if e.2.link = l then some e.2.tag else none) ++ (s.session.tagOn? l).toList ++
    Port.all.filterMap fun p => (s.engine p).work.bind fun w => w.tagOn? l

/-- The outstanding tags of each link are exactly those that work in the part will answer, each owed once (R170); with
what this rests on: slots and contexts are distinct, and a transaction is attributed to the link it answers (R52). -/
def State.tagsOwed (s : State) : Prop :=
  s.tagsDistinct ∧ (s.pool.map Txn.slot).Nodup ∧ s.contexts.sorted = true ∧
    (∀ t ∈ s.pool, ∀ l, (t.tagOn? l).isSome = true → t.attributed = l) ∧
    ∀ l, (s.owed l).Perm (s.link l).outstanding

/-- The cause set is empty in CLEAR, HOLDOFF and AWAIT_RESUME, and not empty in HELD (R127). -/
def Containment.consistent (u : Containment) : Prop :=
  u.causes.isEmpty = false ↔ u.state = .held

/-- Every containment unit is consistent. -/
def State.containmentConsistent (s : State) : Prop :=
  ∀ p, (s.unit p).consistent

/-- The laws of a view (R4, R6, R11, R12), with the generations of its slots: the fields of every record are in range; no
two records share a location or a label, and none has the address of a multiplexer of its port; every record's segment
is present; configurable segments have numbers 6 to 31 and distinct paths; and a group names records of the view, each
once, at most 12 of them. A group without members is not listed. -/
def Configuration.lawful (g : Configuration) (generation : Nat → BitVec 4) : Prop :=
  (∀ e ∈ g.endpoints, e.1 < 128 ∧ e.2.inRange ∧ segmentPresent g.segments e.2.segment = true ∧
    (∀ d ∈ g.endpoints, d.1 ≠ e.1 → ¬ (d.2.segment = e.2.segment ∧ d.2.address = e.2.address) ∧
      (e.2.label ≠ none → d.2.label ≠ e.2.label)) ∧
    ∀ x ∈ g.segments, x.2.port = portOfSegment g.segments e.2.segment → x.2.mux ≠ e.2.address) ∧
  (∀ x ∈ g.segments, 6 ≤ x.1 ∧ x.1 < 32 ∧
    ∀ y ∈ g.segments, y.1 ≠ x.1 → ¬ (y.2.port = x.2.port ∧ y.2.mux = x.2.mux ∧ y.2.channel = x.2.channel)) ∧
  ∀ m ∈ g.groups, m.1 < 16 ∧ m.2 ≠ [] ∧ m.2.length ≤ 12 ∧ m.2.Nodup ∧
    ∀ h ∈ m.2, generation h.slot = h.gen ∧ (g.endpoints.find h.slot).isSome = true

/-- The law of R106: a record that is QUARANTINED or PROBING has no reservation, and the fault score of an ACTIVE one is
below its threshold. -/
def State.healthLaw (s : State) : Prop :=
  ∀ e ∈ s.records,
    (e.2.runtime.health = .active → e.2.runtime.score < e.2.config.threshold) ∧
    (e.2.runtime.health ≠ .active → s.reservation? (s.handleAt e.1) = none)

/-- The laws of the directory: those of R6 in the committed and in the staging view, that of R106, and that the affected
set of an armed commit is the one its views give (R38). -/
def State.directoryLaws (s : State) : Prop :=
  s.committed.lawful s.generation ∧ (∀ g, s.session.staging? = some g → g.lawful s.generation) ∧ s.healthLaw ∧
    ∀ l g k, s.session = .armed l g k → k.affected = s.affectedBy g

/-- The slots in use are distinct numbers below 48, and each link is attributed at most 32 (R52). -/
def State.poolBounded (s : State) : Prop :=
  (s.pool.map Txn.slot).Nodup ∧ (∀ t ∈ s.pool, t.slot < Config.transactionSlots) ∧
    ∀ l, s.attributed l ≤ Config.slotsPerLink

end Sys2Proof.Machine
end

