-- ==== Sys2Proof/Certificates/Slice0/Obligations.lean ====
section
/-! DEFINITION. The statements for the provers. Each says which rules of the spec it comes from; OBLIGATIONS.json lists
them. An answer given at once is written `State.answered`, a response at the tail of the link's queue and nothing else
changed; `settle` is the end of a command, at which the arbiters that R69 names run (ArbiterTakesTheOldestOfTheTurn says
what a run does, and that nothing but engines changes). -/

open Sys2Proof Sys2Proof.Machine

/-! ### The machine -/

/-- The step of a block: the command at the front of the queue is taken, whole (95_what_each_step_holds.md). -/
def Obligations.StepRunsFrontCommand : Prop :=
  ∀ (c : Instr) (rest : List Instr) (s : State), s.pending = c :: rest → step s = exec c { s with pending := rest }

/-- The model's choice (log 1): with no command waiting, a step is one tick of the clock and nothing else. -/
def Obligations.EmptyQueueStepIsOneTick : Prop :=
  ∀ s : State, s.pending = [] → step s = .next { s with now := s.now + 1 }

/-- R22, R62, R83, R104, R121, R149, R164, R182: what the part holds from the release of RSTN, whatever it held before;
and State.reset is such a state. The levels of the pins, the clock and the waiting commands are not the part's (log 7,
log 23); the engine's `since` is a field of the model's own (log 36). -/
def Obligations.PowerOnValues : Prop :=
  (∀ (straps : BitVec 2) (s : State), ∃ t, exec (.rstnRelease straps) s = .next t ∧
    t.rstnLow = false ∧ t.linkBAddress = 0x4C + straps.setWidth 7 ∧ t.tSess = 5000 ∧ t.tCmt = 1000 ∧
    t.records = [] ∧ (∀ n, t.generation n = 0) ∧ t.segments = [] ∧ (∀ n, t.committed.group n = []) ∧ t.epoch = 0 ∧
    t.session = .absent ∧ t.pool = [] ∧ t.waiting = [] ∧ t.reservations = [] ∧ t.contexts = [] ∧
    (∀ p, t.engine p =
      { config := { enable := false, mode := .blockAll, recovery := .manual, tHold := 50, lossThreshold := 8,
                    tInh := 4, tStretch := 25 },
        work := none, phase := none, since := 0, abortPending := false, openChannel := .unknown,
        pointer := .group }) ∧
    (∀ p, t.unit p =
      { state := .clear, causes := { stuck := false, arbitration := false, inhibit := false }, freeLine := .stopped,
        losses := 0, decay := none, inhHigh := (s.unit p).inhHigh, inhSince := s.now }) ∧
    (∀ l, t.link l =
      { outstanding := [], queue := [], attention := [(0, { subject := .none, count := 1 })],
        config := { defaultDeadline := 100, alertMask := 0xFFF, responseAlert := true }, frameErrors := 0,
        getting := none, sent := [] }) ∧
    (∀ l, t.alertLow l = true) ∧ t.now = s.now ∧ t.pending = s.pending) ∧
  exec (.rstnRelease 0) State.reset = .next State.reset

/-- R22, R62, R83, R182: an assertion of RSTN ends every operation, with no response and no attention; ALERT is released
and Link B acknowledges nothing. While RSTN is low no exchange is taken. What else holds between its two edges is the
model's reading (log 23). -/
def Obligations.RstnAssertHoldsThePart : Prop :=
  (∀ s : State, ∃ t, exec .rstnAssert s = .next t ∧ t.rstnLow = true ∧ t.records = [] ∧ t.session = .absent ∧
    t.pool = [] ∧ t.waiting = [] ∧ t.reservations = [] ∧ t.contexts = [] ∧
    (∀ p, (t.engine p).config.enable = false ∧ (t.engine p).work = none) ∧
    (∀ l, (t.link l).queue = [] ∧ (t.link l).outstanding = [] ∧ (t.link l).getting = none ∧
      (t.link l).attention = [] ∧ t.alertLow l = false) ∧
    (∀ a, t.linkBAcknowledges a = false) ∧ t.now = s.now ∧ t.pending = s.pending) ∧
  ∀ s : State, s.rstnLow = true →
    (∀ l bytes, exec (.put l bytes) s = .next s) ∧ (∀ l part, exec (.get l part) s = .next s) ∧
    (∀ d, exec (.badDirectionWindow d) s = .next s) ∧
    ∀ c : Instr, c.request?.isSome = true → exec c s = .next s

/-! ### The links -/

/-- R169, R171, 11.5: the PUT of a good frame is the request that its kind byte names; where the kind names none it is
answered BAD_PARAMETER at once. -/
def Obligations.PutOfGoodFrameIsItsRequest : Prop :=
  (∀ (l : Link) (kind : Byte) (tag : Tag) (ps : List Byte) (c : Instr) (s : State),
     requestOf kind l tag ps = some c → ps.length ≤ 64 →
     ∃ t, exec (.put l (requestFrame kind tag ps)) s = .next t ∧ exec c s = .next t) ∧
  ∀ (l : Link) (kind : Byte) (tag : Tag) (ps : List Byte) (s : State),
    requestOf kind l tag ps = none → s.accepts l tag ps →
    exec (.put l (requestFrame kind tag ps)) s = .next (s.answered l tag ps .badParameter [])

/-- R169: bytes that are no request frame, and a frame whose tag is in use, are dropped: the frame error count rises,
saturating at 255, and FRAME_ERROR is raised. Not so a write of Link B with no data byte (R168), and the tag is not
asked of the two resets. R167, R168: a
window with no whole byte and a write with no data byte are ignored; a window with another direction byte counts a
frame error on Link A and raises FRAME_ERROR. -/
def Obligations.BadFramesAndEmptyWindows : Prop :=
  ((∀ (l : Link) (bytes : List Byte) (s : State), s.rstnLow = false → (l = .a ∨ bytes ≠ []) →
     (¬ ∃ kind tag ps, ps.length ≤ 64 ∧ bytes = requestFrame kind tag ps) →
     exec (.put l bytes) s =
       .next (s.dropped l (match l with | .a => List.replicate (bytes.length + 1) 0xFF | .b => []))) ∧
   (∀ (c : Instr) (l : Link) (tag : Tag) (ps : List Byte) (s : State), c.request? = some (l, tag, ps) →
     c.isReset = false → s.rstnLow = false → ps.length ≤ 64 → (s.link l).tagInUse tag = true →
     exec c s = .next (s.dropped l (putOut l ps))) ∧
   ∀ s : State, exec (.put .b []) s = .next s) ∧
  (∀ (a : BusAddress) (s : State), exec (.addressOnlyWrite a) s = .next s) ∧
  (∀ s : State, exec .windowWithNoWholeByte s = .next s) ∧
  ∀ (d : Byte) (s : State), s.rstnLow = false → d ≠ 0xA5 → d ≠ 0x5A →
    exec (.badDirectionWindow d) s = .next (s.dropped .a (s.link .a).sent)

/-- R183: a request frame reads back as its kind, tag and block, and only frames read as anything; the CRC-8 over a
whole frame is 0, and of the byte 0x00 it is 0xF3. -/
def Obligations.FrameRoundTrip : Prop :=
  (∀ (kind : Byte) (tag : Tag) (ps : List Byte), ps.length ≤ 64 →
    parseFrame (requestFrame kind tag ps) = some (kind, tag, ps) ∧
    (requestFrame kind tag ps).length = ps.length + 4 ∧ crc8 (requestFrame kind tag ps) = 0) ∧
  (∀ (bytes : List Byte) (kind : Byte) (tag : Tag) (ps : List Byte), parseFrame bytes = some (kind, tag, ps) →
    bytes = requestFrame kind tag ps ∧ ps.length ≤ 64) ∧
  (∀ r : Response, (responseFrame r).length = r.payload.length + 5 ∧ crc8 (responseFrame r) = 0) ∧
  crc8 [0x00] = 0xF3

/-- R4, R184: the block that a query returns for a configuration part in range reads back as that part, and a block
that reads at all is 16 bytes long and in range. -/
def Obligations.RecordBlockRoundTrip : Prop :=
  (∀ c : EndpointConfig, c.inRange → recordBlock? (recordBytes c) = some c) ∧
  ∀ (ps : List Byte) (c : EndpointConfig), recordBlock? ps = some c → ps.length = 16 ∧ c.inRange

/-- R172, R173: a GET sends the head entry and removes it when it has been sent whole; a short one leaves it; an empty
queue sends EMPTY. In parts, the copy is that of the start, and an entry that a reset has removed is not removed
again. That a GET is one command or its start and its end, and that a start during a GET begins a new one, are the
model's choices (log 5, log 33). -/
def Obligations.GetSendsTheHead : Prop :=
  (∀ (l : Link) (n : Nat) (s : State), s.rstnLow = false →
    ((s.link l).queue = [] → exec (.get l (.whole n)) s = .next (s.setLink l { s.link l with
      getting := none
      sent := (responseFrame { tag := 0, status := .empty, payload := [] }).take n ++ List.replicate (n - 5) 0xFF })) ∧
    ∀ r rest, (s.link l).queue = r :: rest →
      (r.payload.length + 5 ≤ n → exec (.get l (.whole n)) s = .next (s.setLink l { s.link l with
        queue := rest, getting := none
        sent := responseFrame r ++ List.replicate (n - (r.payload.length + 5)) 0xFF })) ∧
      (n < r.payload.length + 5 → exec (.get l (.whole n)) s = .next (s.setLink l { s.link l with
        getting := none, sent := (responseFrame r).take n }))) ∧
  ∀ (l : Link) (n : Nat) (s : State), s.rstnLow = false →
    exec (.get l .start) s = .next (s.setLink l { s.link l with getting := some (s.link l).copy }) ∧
    ∀ g, (s.link l).getting = some g → exec (.get l (.finish n)) s = .next (s.setLink l { s.link l with
      queue := if g.fromHead = true ∧ g.copy.length ≤ n then (s.link l).queue.tail else (s.link l).queue
      getting := none, sent := clockedOut g.copy n })

/-- R187: the parameter check comes first: a block that does not read is answered BAD_PARAMETER, and nothing else
changes. -/
def Obligations.MalformedBlockIsBadParameter : Prop :=
  ∀ (c : Instr) (l : Link) (tag : Tag) (ps : List Byte) (s : State), c.request? = some (l, tag, ps) →
    c.blockReads = false → s.accepts l tag ps → exec c s = .next (s.answered l tag ps .badParameter [])

/-- R175: GET_ATTENTION answers with the frame error count and every entry in the order of the kinds, and empties the
set of its own link; nothing else changes. -/
def Obligations.GetAttentionReportsAndEmpties : Prop :=
  ∀ (l : Link) (tag : Tag) (s : State), s.accepts l tag [] →
    exec (.getAttention l tag []) s = .next
      ((s.setLink l { s.link l with attention := [] }).answered l tag [] .ok
        ([byteOf (s.link l).frameErrors, byteOf (s.link l).attention.length] ++
          (s.link l).attention.flatMap fun e =>
            [byteOf e.1] ++ (match e.2.subject with
              | .none => [0, 0, 0]
              | .handle h => [1, byteOf h.slot, h.gen.setWidth 8]
              | .segment n => [2, 0, byteOf n]
              | .port p => [3, 0, byteOf p.num]) ++ [byteOf e.2.count]))

/-- R177, R178, R179: IDENTIFY, CONFIGURE_LINK and CONFIGURE_DEVICE. The silicon revision is the model's free value
(log 8): the statement holds for every value of it. -/
def Obligations.IdentityAndConfiguration : Prop :=
  (∀ (l : Link) (tag : Tag) (s : State), s.accepts l tag [] →
    exec (.identify l tag []) s = .next (s.answered l tag [] .ok
      ([0x46, 0x42, 0x52, 0x4D, 0x37, 0x06, Config.siliconRevision, (match l with | .a => 0 | .b => 1),
        s.linkBAddress.setWidth 8, 128, 32, 16, 12, 48, 32, 16, 4, 6, 16] ++ wordOf s.epoch.toNat ++ wordOf s.tSess ++
        wordOf s.tCmt))) ∧
  (∀ (l : Link) (tag : Tag) (ps : List Byte) (c : LinkConfig) (s : State), s.accepts l tag ps →
    configureLinkBlock? ps = some c →
    exec (.configureLink l tag ps) s =
      .next ((s.setLink l { s.link l with config := c }).answered l tag ps .ok [])) ∧
  ∀ (l : Link) (tag : Tag) (ps : List Byte) (x y : Nat) (s : State), s.accepts l tag ps →
    configureDeviceBlock? ps = some (x, y) →
    exec (.configureDevice l tag ps) s = .next (({ s with tSess := x, tCmt := y }).answered l tag ps .ok [])

/-! ### Lookups and queries -/

/-- R16: QUERY_ENDPOINT of either view. It changes nothing but the response queue. -/
def Obligations.QueryEndpointAnswers : Prop :=
  (∀ (l : Link) (tag : Tag) (ps : List Byte) (h : Handle) (s : State), s.accepts l tag ps →
    queryEndpointBlock? ps = some (h, .committed) →
    exec (.queryEndpoint l tag ps) s = .next (match s.record? h with
      | none => s.answered l tag ps .staleHandle []
      | some r => s.answered l tag ps .ok
          (recordBytes r.config ++
            [byteOf r.runtime.health.num, byteOf r.runtime.score, byteOf r.runtime.health.causeNum,
              byteOf (writeBusyNum r.runtime.writeBusy)] ++
            s.remainingBytes (r.runtime.writeBusy.map WriteBusy.ends) ++
            s.remainingBytes (r.runtime.writeBusy.bind WriteBusy.pollWait?) ++
            [byteOf (s.inFlight h), byteOf (holderNum ((s.reservation? h).map Reservation.holder))] ++
            s.remainingBytes ((s.reservation? h).map Reservation.expiry) ++
            [if s.commitPending h then 1 else 0]))) ∧
  ∀ (l : Link) (tag : Tag) (ps : List Byte) (h : Handle) (g : Configuration) (s : State), s.accepts l tag ps →
    queryEndpointBlock? ps = some (h, .staging) → s.view? l .staging = some g →
    exec (.queryEndpoint l tag ps) s = .next
      (if s.generation h.slot ≠ h.gen then s.answered l tag ps .staleHandle []
       else match (s.records.find h.slot).map Record.config, g.endpoints.find h.slot with
        | none, none => s.answered l tag ps .staleHandle []
        | none, some c => s.answered l tag ps .ok (recordBytes c ++ [0])
        | some d, some c => s.answered l tag ps .ok (recordBytes c ++ [if c = d then 1 else 2])
        | some d, none => s.answered l tag ps .ok (recordBytes d ++ [3]))

/-- R17, R18: LOOKUP answers the handle of a record of the view that matches the key, or NOT_FOUND; LIST_ENDPOINTS the
first eight handles from the start slot on, the epoch and the continuation. A location key matches the record with that
segment and bus address, a label key the record that carries that label. -/
def Obligations.LookupAndListAnswers : Prop :=
  (∀ (l : Link) (tag : Tag) (ps : List Byte) (v : View) (key : LookupKey) (g : Configuration) (s : State),
    s.accepts l tag ps → lookupBlock? ps = some (v, key) → s.view? l v = some g →
    ((∀ n c, (n, c) ∈ g.endpoints → key.matches c = false) →
      exec (.lookup l tag ps) s = .next (s.answered l tag ps .notFound [])) ∧
    ∀ n c, (n, c) ∈ g.endpoints → key.matches c = true →
      ∃ m d, (m, d) ∈ g.endpoints ∧ key.matches d = true ∧
        exec (.lookup l tag ps) s = .next (s.answered l tag ps .ok (handleBytes ⟨m, s.generation m⟩))) ∧
  (∀ (n : Nat) (a : BusAddress) (c : EndpointConfig),
    (LookupKey.location n a).matches c = decide (c.segment = n ∧ c.address = a)) ∧
  (∀ (x : BitVec 32) (c : EndpointConfig), (LookupKey.label x).matches c = decide (c.label = some x)) ∧
  ∀ (l : Link) (tag : Tag) (ps : List Byte) (v : View) (start : Nat) (g : Configuration) (s : State),
    s.accepts l tag ps → listBlock? ps = some (v, start) → s.view? l v = some g →
    ∃ slots more, slots = ((g.endpoints.map Prod.fst).filter fun n => decide (start ≤ n)).take 8 ∧
      (slots.length < 8 → more = 0xFF) ∧
      (∀ last, slots.length = 8 → slots.getLast? = some last → more = if last < 127 then byteOf (last + 1) else 0xFF) ∧
      exec (.listEndpoints l tag ps) s = .next (s.answered l tag ps .ok
        (wordOf s.epoch.toNat ++ [byteOf slots.length, more] ++ slots.flatMap fun n => handleBytes ⟨n, s.generation n⟩))

/-- R19, R20, R21, R184, R186: QUERY_SEGMENT, QUERY_GROUP and QUERY_DIRECTORY. A remaining time reads at least 1 ms, also
where its timer is due and not yet taken (log 29). -/
def Obligations.SegmentGroupAndDirectoryAnswers : Prop :=
  (∀ (l : Link) (tag : Tag) (ps : List Byte) (n : Nat) (s : State), s.accepts l tag ps →
    numberViewBlock? 31 ps = some (n, .committed) →
    exec (.querySegment l tag ps) s = .next (match segmentBytes s.segments n with
      | some bytes => s.answered l tag ps .ok (bytes ++ [byteOf (s.committed.recordsOn n)])
      | none => s.answered l tag ps .noSuchSegment [])) ∧
  (∀ (l : Link) (tag : Tag) (ps : List Byte) (n : Nat) (g : Configuration) (s : State), s.accepts l tag ps →
    numberViewBlock? 31 ps = some (n, .staging) → s.view? l .staging = some g →
    exec (.querySegment l tag ps) s = .next (match segmentBytes s.segments n, segmentBytes g.segments n with
      | none, none => s.answered l tag ps .noSuchSegment []
      | none, some bytes => s.answered l tag ps .ok (bytes ++ [byteOf (g.recordsOn n), 0])
      | some _, some bytes => s.answered l tag ps .ok (bytes ++ [byteOf (g.recordsOn n), 1])
      | some bytes, none => s.answered l tag ps .ok (bytes ++ [byteOf (g.recordsOn n), 2]))) ∧
  (∀ (l : Link) (tag : Tag) (ps : List Byte) (n : Nat) (v : View) (g : Configuration) (s : State),
    s.accepts l tag ps → numberViewBlock? 15 ps = some (n, v) → s.view? l v = some g →
    exec (.queryGroup l tag ps) s = .next (s.answered l tag ps .ok
      ([byteOf (g.group n).length] ++ (g.group n).flatMap handleBytes ++ (match v with
        | .committed => []
        | .staging => [if g.group n = s.committed.group n then 0 else 1])))) ∧
  (∀ (l : Link) (tag : Tag) (s : State), s.accepts l tag [] →
    ∃ (remaining : Time → List Byte) (payload : List Byte),
      (remaining = fun expiry => wordOf (max 1 ((expiry - s.now + 9999) / 10000))) ∧
      payload = wordOf s.epoch.toNat ++
        [byteOf s.records.length,
          byteOf (s.records.filter fun e => match e.2.runtime.health with | .quarantined _ => true | _ => false).length,
          byteOf (s.records.filter fun e => match e.2.runtime.health with | .probing _ => true | _ => false).length,
          byteOf s.segments.length, byteOf s.groups.length] ++
        (match s.session with
          | .absent => [0, 0, 0, 0, 0, 0, 0, 0, 0, 0]
          | .opened h g expiry =>
            [1, match h with | .a => 1 | .b => 2, byteOf g.endpoints.length] ++ remaining expiry ++ [0, 0, 0, 0, 0]
          | .armed h g k =>
            [2, match h with | .a => 1 | .b => 2, byteOf g.endpoints.length, 0, 0,
              match k.mode with | .wait => 0 | .preempt => 1, byteOf k.affected.length,
              byteOf (k.affected.filter fun j =>
                decide (s.inFlight j ≠ 0 ∨ (s.reservation? j).isSome = true)).length] ++ remaining k.deadline) ∧
      payload.length = 17 ∧ exec (.queryDirectory l tag []) s = .next (s.answered l tag [] .ok payload)) ∧
  ∀ segments : Table Segment,
    (∀ n p, Port.ofNat? n = some p → segmentBytes segments n = some [0, byteOf n, 0, 0, 0]) ∧
    (∀ n x, 6 ≤ n → segments.find n = some x → segmentBytes segments n = some
      [1, byteOf x.port.num, x.mux.setWidth 8, x.channel.setWidth 8,
        match x.speed with | .standard => 0 | .fast => 1 | .fastPlus => 2]) ∧
    ∀ n, 6 ≤ n → segments.find n = none → segmentBytes segments n = none

/-! ### The staging session -/

/-- R26: OPEN_SESSION copies the committed configuration into a staging view and starts tSESS; in OPEN or ARMED it is
refused SESSION_HELD, to either link. R36: DISCARD_SESSION from the holder in OPEN drops the session
and nothing else. -/
def Obligations.SessionOpensAndIsDiscarded : Prop :=
  (∀ (l : Link) (tag : Tag) (s : State), s.accepts l tag [] →
     (s.session = .absent → exec (.openSession l tag []) s = .next (({ s with
       session := .opened l
         { endpoints := s.records.mapValues fun _ (r : Record) => r.config, segments := s.segments, groups := s.groups }
         (s.now + s.tSess * 10000) }).answered l tag [] .ok [])) ∧
     (s.session ≠ .absent → exec (.openSession l tag []) s = .next (s.answered l tag [] .sessionHeld []))) ∧
  ∀ (l : Link) (tag : Tag) (g : Configuration) (expiry : Time) (s : State), s.accepts l tag [] →
    s.session = .opened l g expiry →
    exec (.discardSession l tag []) s = .next (({ s with session := .absent }).answered l tag [] .ok [])

/-- R28: the session check, after the parameter check, for the staged edits, DISCARD_SESSION, COMMIT and
ABORT_COMMIT. R15: a query that names the staging view is refused NO_SESSION with no session, and SESSION_HELD to
the link that does not hold it. -/
def Obligations.SessionAccess : Prop :=
  ((∀ (c : Instr) (l : Link) (tag : Tag) (ps : List Byte) (s : State), c.request? = some (l, tag, ps) →
     c.needsOpen = true → c.blockReads = true → s.accepts l tag ps →
     (s.session = .absent → exec c s = .next (s.answered l tag ps .noSession [])) ∧
     (s.session.holder? = some l.other → exec c s = .next (s.answered l tag ps .sessionHeld [])) ∧
     (∀ g x, s.session = .armed l g x → exec c s = .next (s.answered l tag ps .stageFrozen []))) ∧
   ∀ (l : Link) (tag : Tag) (s : State), s.accepts l tag [] →
     (s.session = .absent → exec (.abortCommit l tag []) s = .next (s.answered l tag [] .noSession [])) ∧
     (s.session.holder? = some l.other → exec (.abortCommit l tag []) s = .next (s.answered l tag [] .sessionHeld [])) ∧
     (∀ g e, s.session = .opened l g e → exec (.abortCommit l tag []) s = .next (s.answered l tag [] .stageFrozen []))) ∧
  ∀ (c : Instr) (l : Link) (tag : Tag) (ps : List Byte) (s : State), c.request? = some (l, tag, ps) →
    c.namesStaging = true → s.accepts l tag ps →
    (s.session = .absent → exec c s = .next (s.answered l tag ps .noSession [])) ∧
    (s.session.holder? = some l.other → exec c s = .next (s.answered l tag ps .sessionHeld []))

/-- R29 to R32: the staged edits of records, by the first check that fails, and their effect on the staging view
alone, with tSESS restarted. A retired handle leaves every group list, in which the others keep their order; a group that
has lost its last member is not listed. -/
def Obligations.RecordEditsInOrder : Prop :=
  ∀ (l : Link) (tag : Tag) (ps : List Byte) (g : Configuration) (expiry : Time) (s : State), s.accepts l tag ps →
    s.session = .opened l g expiry →
    (∀ c, recordBlock? ps = some c → exec (.addEndpoint l tag ps) s = .next
      (if segmentPresent g.segments c.segment = false then s.answered l tag ps .noSuchSegment []
       else if g.endpoints.any (fun e => decide (e.2.segment = c.segment ∧ e.2.address = c.address)) then
        s.answered l tag ps .duplicateAddress []
       else if c.label.isSome = true ∧ (g.endpoints.any fun e => decide (e.2.label = c.label)) = true then
        s.answered l tag ps .duplicateLabel []
       else if g.segments.any (fun e =>
          decide (e.2.port = portOfSegment g.segments c.segment ∧ e.2.mux = c.address)) then
        s.answered l tag ps .addressConflict []
       else match s.newSlot? g with
        | none => s.answered l tag ps .tableFull []
        | some n => ({ s with session := .opened l { g with endpoints := g.endpoints.put n c } (s.after s.tSess) }).answered
            l tag ps .ok [byteOf n, (s.generation n).setWidth 8])) ∧
    (∀ n, s.newSlot? g = some n → n < 128 ∧ s.records.find n = none ∧ g.endpoints.find n = none ∧
      ∀ m < n, (s.records.find m).isSome = true ∨ (g.endpoints.find m).isSome = true) ∧
    (g.groups.sorted = true → ∀ (h : Handle) (n : Nat),
      ((groupsWithout h g.groups).find n).getD [] = ((g.groups.find n).getD []).filter fun x => decide (x ≠ h)) ∧
    (∀ h c, modifyBlock? ps = some (h, c) → exec (.modifyEndpoint l tag ps) s = .next
      (if s.generation h.slot ≠ h.gen ∨ g.endpoints.find h.slot = none then s.answered l tag ps .staleHandle []
       else if segmentPresent g.segments c.segment = false then s.answered l tag ps .noSuchSegment []
       else if g.endpoints.any (fun e =>
          decide (e.1 ≠ h.slot ∧ e.2.segment = c.segment ∧ e.2.address = c.address)) then
        s.answered l tag ps .duplicateAddress []
       else if c.label.isSome = true ∧
          (g.endpoints.any fun e => decide (e.1 ≠ h.slot ∧ e.2.label = c.label)) = true then
        s.answered l tag ps .duplicateLabel []
       else if g.segments.any (fun e =>
          decide (e.2.port = portOfSegment g.segments c.segment ∧ e.2.mux = c.address)) then
        s.answered l tag ps .addressConflict []
       else ({ s with session := .opened l { g with endpoints := g.endpoints.put h.slot c }
                        (s.after s.tSess) }).answered l tag ps .ok [byteOf h.slot, h.gen.setWidth 8])) ∧
    ∀ h, handleBlock? ps = some h → exec (.retireEndpoint l tag ps) s = .next
      (if s.generation h.slot ≠ h.gen ∨ g.endpoints.find h.slot = none then s.answered l tag ps .staleHandle []
       else ({ s with session := .opened l { g with endpoints := g.endpoints.remove h.slot
                                                    groups := groupsWithout h g.groups }
                        (s.after s.tSess) }).answered l tag ps .ok [byteOf (g.groups.countIf fun hs => decide (h ∈ hs))])

/-- R33 to R35: the staged edits of segments and groups. -/
def Obligations.SegmentAndGroupEditsInOrder : Prop :=
  ∀ (l : Link) (tag : Tag) (ps : List Byte) (g : Configuration) (expiry : Time) (s : State), s.accepts l tag ps →
    s.session = .opened l g expiry →
    (∀ x, segmentBlock? ps = some x → exec (.addSegment l tag ps) s = .next
      (if g.segments.any (fun e => decide (e.2.port = x.port ∧ e.2.mux = x.mux ∧ e.2.channel = x.channel)) then
        s.answered l tag ps .duplicateAddress []
       else if g.endpoints.any (fun e =>
          decide (portOfSegment g.segments e.2.segment = x.port ∧ e.2.address = x.mux)) then
        s.answered l tag ps .addressConflict []
       else match s.newSegment? g with
        | none => s.answered l tag ps .tableFull []
        | some n => ({ s with session := .opened l { g with segments := g.segments.put n x } (s.after s.tSess) }).answered
            l tag ps .ok [byteOf n])) ∧
    (∀ n, s.newSegment? g = some n → 6 ≤ n ∧ n < 32 ∧ s.segments.find n = none ∧ g.segments.find n = none ∧
      ∀ m < n, 6 ≤ m → (s.segments.find m).isSome = true ∨ (g.segments.find m).isSome = true) ∧
    (∀ n, retireSegmentBlock? ps = some n → exec (.retireSegment l tag ps) s = .next
      (if g.segments.find n = none then s.answered l tag ps .noSuchSegment []
       else if g.endpoints.any (fun e => decide (e.2.segment = n)) then s.answered l tag ps .segmentInUse []
       else ({ s with session := .opened l { g with segments := g.segments.remove n } (s.after s.tSess) }).answered
            l tag ps .ok [])) ∧
    ∀ n hs, setGroupBlock? ps = some (n, hs) →
      ((∃ h ∈ hs, s.generation h.slot ≠ h.gen ∨ g.endpoints.find h.slot = none) →
        exec (.setGroup l tag ps) s = .next (s.answered l tag ps .staleHandle [])) ∧
      ((∀ h ∈ hs, s.generation h.slot = h.gen ∧ (g.endpoints.find h.slot).isSome = true) →
        ∃ g', exec (.setGroup l tag ps) s =
            .next (({ s with session := .opened l g' (s.after s.tSess) }).answered l tag ps .ok []) ∧
          g'.endpoints = g.endpoints ∧ g'.segments = g.segments ∧ g'.group n = hs ∧
          ∀ m, m ≠ n → g'.group m = g.group m)

/-- R39, R41: a WAIT commit with an affected record that is not at rest arms, and waits: nothing is removed, and the
COMMIT's tag stays outstanding. -/
def Obligations.WaitCommitArms : Prop :=
  ∀ (l : Link) (tag : Tag) (ps : List Byte) (d : Option Nat) (g : Configuration) (expiry : Time) (s : State),
    s.accepts l tag ps → s.session = .opened l g expiry → commitBlock? ps = some (.wait, d) →
    (∃ h ∈ s.affectedBy g, s.inFlight h ≠ 0 ∨ (s.reservation? h).isSome = true) →
    exec (.commit l tag ps) s = .next { s.accepted l tag ps with
      session := .armed l g
        { mode := .wait, deadline := s.after (d.getD s.tCmt), tag := tag, affected := s.affectedBy g } }

/-- R38: which records a commit affects, in ascending slot order where the table of records is in its canonical form:
those that the staging view retires, and those whose segment or bus address it changes. -/
def Obligations.AffectedSetOfACommit : Prop :=
  ∀ (g : Configuration) (s : State),
    (∀ h, h ∈ s.affectedBy g ↔ ∃ n r, (n, r) ∈ s.records ∧ h = ⟨n, s.generation n⟩ ∧
      ∀ c, g.endpoints.find n = some c → c.segment ≠ r.config.segment ∨ c.address ≠ r.config.address) ∧
    (s.records.sorted = true → ((s.affectedBy g).map Handle.slot).Pairwise (· < ·))

/-- R7, R39, R42, R43, R108: a commit all of whose affected records are at rest reaches its commit point at arming, in
either mode: runtime parts are fresh or kept, the re-check quarantines, and the answer carries the four counts. -/
def Obligations.CommitPointAtArming : Prop :=
  ∀ (l : Link) (tag : Tag) (ps : List Byte) (mode : CommitMode) (d : Option Nat) (g : Configuration) (expiry : Time)
    (s : State), s.accepts l tag ps → s.session = .opened l g expiry → commitBlock? ps = some (mode, d) →
    s.tablesSorted → s.tagsOwed → (∀ h ∈ s.affectedBy g, s.inFlight h = 0 ∧ s.reservation? h = none) →
    ∃ t, exec (.commit l tag ps) s = .next t ∧ t.session = .absent ∧ t.epoch = s.epoch + 1 ∧
      t.segments = g.segments ∧ t.groups = g.groups ∧
      (∀ n, (t.records.find n).map Record.config = g.endpoints.find n) ∧
      (∀ n, t.generation n =
        if (s.records.find n).isSome = true ∧ g.endpoints.find n = none then s.generation n + 1 else s.generation n) ∧
      (∃ added counts, (t.link l).queue = (s.link l).queue ++ added ++
        [Response.mk tag .ok (wordOf (s.epoch + 1).toNat ++ counts)] ∧ counts.length = 4 ∧
        counts = (s.commitCounts g).map byteOf) ∧
      ((t.link l.other).attention.find 3).map AttentionEntry.subject = some .none ∧
      ∀ n c, g.endpoints.find n = some c → t.records.find n = some (s.recordAfterCommit n c)

/-- R39, R40, R43, R147: a PREEMPT commit reaches its commit point, or stands armed with no queued transaction and no
reservation on an affected record. Either way each queued TRANSACT and release probe it removed has been answered
CANCELLED_COMMIT, and the holder of each reservation it revoked has RESERVATION_REVOKED. -/
def Obligations.PreemptArmingRemoves : Prop :=
  ∀ (l : Link) (tag : Tag) (ps : List Byte) (d : Option Nat) (g : Configuration) (expiry : Time) (s : State),
    s.accepts l tag ps → s.session = .opened l g expiry → commitBlock? ps = some (.preempt, d) →
    ∃ t, exec (.commit l tag ps) s = .next t ∧
      (s.commitsTo g t ∨ (t.session = .armed l g
          { mode := .preempt, deadline := s.after (d.getD s.tCmt), tag := tag, affected := s.affectedBy g } ∧
        t.epoch = s.epoch ∧
        ∀ h ∈ s.affectedBy g, t.reservation? h = none ∧ ∀ x ∈ t.pool, x.handle = h → t.isActive x = true)) ∧
      (s.tagsOwed → ∀ y ∈ s.pool, y.handle ∈ s.affectedBy g → s.isActive y = false → y.orphan = false →
        ∀ m x, y.origin = .transact m x ∨ y.origin = .releaseProbe m x →
          Response.mk x .cancelledCommit (y.result []) ∈ (t.link m).queue) ∧
      ∀ h ∈ s.affectedBy g, ∀ r, s.reservation? h = some r →
        ∃ j x, s.reservation? j = some x ∧ x.holder = r.holder ∧
          ((t.link r.holder).attention.find 11).map AttentionEntry.subject = some (.handle j) ∧
          (t.session ≠ .absent → j ∈ s.affectedBy g)

/-- R45: ABORT_COMMIT from the holder in ARMED answers the COMMIT COMMIT_ABORTED and then itself OK, and the session
is OPEN again with its staging view. R27, R44: tSESS expires in OPEN, and the commit deadline in ARMED; the clock
comes to the expiry (log 2). -/
def Obligations.ArmedCommitsFailAndSessionsExpire : Prop :=
  (∀ (l : Link) (tag : Tag) (g : Configuration) (x : CommitRecord) (s : State), s.accepts l tag [] →
     s.session = .armed l g x → x.tag ∈ (s.link l).outstanding →
     exec (.abortCommit l tag []) s = .next (({ s with session := .opened l g (s.after s.tSess) }).setLink l
       { s.link l with
         outstanding := (s.link l).outstanding.erase x.tag
         queue := (s.link l).queue ++ [Response.mk x.tag .commitAborted [], Response.mk tag .ok []]
         sent := putOut l [] })) ∧
  (∀ (l : Link) (g : Configuration) (expiry : Time) (s : State), s.session = .opened l g expiry →
    exec .sessionExpired s = .next (({ s with session := .absent, now := max s.now expiry }).setLink l { s.link l with
      attention := (s.link l).attention.put 4 (s.raisedEntry l .sessionExpired .none) })) ∧
  (∀ (l : Link) (g : Configuration) (x : CommitRecord) (s : State), s.session = .armed l g x →
    x.tag ∈ (s.link l).outstanding →
    exec .commitDeadline s = .next (({ s with
      session := .opened l g (max s.now x.deadline + s.tSess * 10000), now := max s.now x.deadline }).setLink l
      { s.link l with
        outstanding := (s.link l).outstanding.erase x.tag
        queue := (s.link l).queue ++ [Response.mk x.tag .commitDeadline []] })) ∧
  (∀ s : State, (∀ l g e, s.session ≠ .opened l g e) → exec .sessionExpired s = .next s) ∧
  ∀ s : State, (∀ l g x, s.session ≠ .armed l g x) → exec .commitDeadline s = .next s

/-! ### Transactions -/

/-- R48, R49, R50, R53: TRANSACT, by the first check that fails; where none fails, the transaction takes a slot and
joins the tail of its port's queue, its tag outstanding. That the slot is the lowest FREE one, which freeSlot? gives, is
the model's choice (log 10). -/
def Obligations.TransactAdmission : Prop :=
  ∀ (l : Link) (tag : Tag) (ps : List Byte) (h : Handle) (o : OperationFields) (s : State), s.accepts l tag ps →
    transactBlock? ps = some (h, o) → exec (.transact l tag ps) s = .next (match s.record? h with
      | none => s.answered l tag ps .staleHandle []
      | some r =>
        if o.operation ≠ .probe ∧ indexFits r.config.indexWidth o.index = false then
          s.answered l tag ps .badParameter []
        else if (r.config.access l).permits o.operation = false then s.answered l tag ps .accessDenied []
        else if r.runtime.health ≠ .active then s.answered l tag ps .quarantined []
        else if s.reservedAgainst h l = true then s.answered l tag ps .reserved []
        else if s.commitPending h = true then s.answered l tag ps .commitPending []
        else if (s.engine (s.portOf r.config)).config.enable = false then s.answered l tag ps .portDisabled []
        else if s.portPermits (s.portOf r.config) o.operation = false then s.answered l tag ps .portHeld []
        else match s.freeSlot? with
          | none => s.answered l tag ps .noSlot []
          | some n =>
            if 32 ≤ s.attributed l then s.answered l tag ps .noSlot []
            else settle [] s { s.accepted l tag ps with
              pool := s.pool ++ [
                { slot := n, origin := .transact l tag, attributed := l, handle := h, snapshot := s.snapshot r.config,
                  operation := o.operation, index := o.index, length := o.length, data := o.data,
                  deadline := s.after (o.deadline.getD (s.link l).config.defaultDeadline), epoch := s.epoch,
                  retries := 0, losses := 0, orphan := false }] })

/-- R54, R56, R57, R61, R156, R160: the deadline of a QUEUED transaction removes it with DEADLINE_EXPIRED, an orphan
silently, and that of an ACTIVE one does nothing; the deadline of a group context ends its members that have no
transaction, and the report follows at once where no member is left. The slot that a removal frees is handed to the
member at the head of the waiting list, whose issue continues. The clock comes to the deadline (log 2), and the slot that
a placement takes is the lowest FREE one (log 10). The deadlines of release probes are in ReleaseProbeOutcome; that of a
member of a group, and that of a context with QUEUED members, are left out. -/
def Obligations.DeadlinesExpire : Prop :=
  (∀ (slot : Nat) (t : Txn) (s : State), s.txn? slot = some t → s.isActive t = true →
    exec (.transactionDeadline slot) s = .next s) ∧
  (∀ (slot : Nat) (t : Txn) (l : Link) (tag : Tag) (s : State), s.txn? slot = some t → s.isActive t = false →
    t.answers l tag → tag ∈ (s.link l).outstanding → s.quiet t.handle →
    exec (.transactionDeadline slot) s = .next (settle [] s
      ({ s with
        now := max s.now t.deadline
        pool := s.pool.filter fun u => decide (u.slot ≠ slot) }.setLink l { s.link l with
          outstanding := (s.link l).outstanding.erase tag
          queue := (s.link l).queue ++ [Response.mk tag .deadlineExpired (t.result [])] }))) ∧
  (∀ (c : Nat) (x : Context) (s : State), s.contexts.find c = some x →
    (∀ t ∈ s.pool, t.memberOf c = true → s.isActive t = true) →
    ∃ y, y = { x with members := x.members.map fun m => match m.condition with
        | .pending => { m with condition := .finished .deadlineExpired [] }
        | .waiting _ => { m with condition := .finished .deadlineExpired [] }
        | _ => m } ∧
      ((∃ m ∈ x.members, ∃ p, m.condition = .inFlight p) → exec (.contextDeadline c) s = .next { s with
        now := max s.now x.deadline
        contexts := s.contexts.put c y
        waiting := s.waiting.filter fun w => decide (w.1 ≠ c) }) ∧
      ((∀ m ∈ x.members, ∀ p, m.condition ≠ .inFlight p) → x.tag ∈ (s.link x.link).outstanding →
        exec (.contextDeadline c) s = .next ({ s with
          now := max s.now x.deadline
          contexts := s.contexts.remove c
          waiting := s.waiting.filter fun w => decide (w.1 ≠ c) }.setLink x.link { s.link x.link with
            outstanding := (s.link x.link).outstanding.erase x.tag
            queue := (s.link x.link).queue ++ [Response.mk x.tag .ok (y.report c s.epoch)] }))) ∧
    (∀ (slot : Nat) (t : Txn) (s : State), s.txn? slot = some t → s.isActive t = false → t.orphan = true →
      t.origin.isProbe = false → s.quiet t.handle → exec (.transactionDeadline slot) s = .next (settle [] s
        { s with now := max s.now t.deadline, pool := s.pool.filter fun u => decide (u.slot ≠ slot) })) ∧
    ∀ (slot : Nat) (t : Txn) (l : Link) (tag : Tag) (k i n : Nat) (y : Context) (h : Handle) (r : Record) (s u : State),
      s.txn? slot = some t → s.isActive t = false → t.answers l tag → tag ∈ (s.link l).outstanding →
      s.commitPending t.handle = false → s.waiting = [(k, i)] → s.contexts.find k = some y →
      y.members[i]? = some { handle := h, condition := .waiting (s.portOf r.config) } → s.record? h = some r →
      memberRefusal s y h r = none → max s.now t.deadline < y.deadline →
      u = { s with
        now := max s.now t.deadline
        pool := s.pool.filter fun v => decide (v.slot ≠ slot) } →
      u.freeSlot? = some n → u.attributed y.link < 32 →
      exec (.transactionDeadline slot) s = .next (settle [] s
        ({ u with
          waiting := []
          contexts := s.contexts.put k { y with
            members := y.members.modify i fun m => { m with condition := .inFlight (s.portOf r.config) } }
          pool := u.pool ++ [
            ({ slot := n, origin := .member k i, attributed := y.link, handle := h, snapshot := s.snapshot r.config,
               operation := y.operation
               index := if r.config.indexWidth = 0 ∨ y.operation = Operation.probe then none else y.index
               length := y.length, data := y.data, deadline := y.deadline, epoch := s.epoch, retries := 0, losses := 0,
               orphan := false } : Txn)] }.setLink l { s.link l with
            outstanding := (s.link l).outstanding.erase tag
            queue := (s.link l).queue ++ [Response.mk tag .deadlineExpired (t.result [])] }))

/-! ### Health -/

/-- R112, R113: RELEASE, by the first check that fails; where none fails, the record is PROBING and its probe takes a
slot, the lowest FREE one by the model's choice (log 10). -/
def Obligations.ReleaseAdmission : Prop :=
  ∀ (l : Link) (tag : Tag) (ps : List Byte) (h : Handle) (s : State), s.accepts l tag ps →
    handleBlock? ps = some h → exec (.release l tag ps) s = .next (match s.record? h with
      | none => s.answered l tag ps .staleHandle []
      | some r =>
        if r.config.readable l = false then s.answered l tag ps .accessDenied []
        else match r.runtime.health with
          | .probing _ => s.answered l tag ps .probeInProgress []
          | .active => s.answered l tag ps .notQuarantined []
          | .quarantined cause =>
            if s.commitPending h = true then s.answered l tag ps .commitPending []
            else if (s.engine (s.portOf r.config)).config.enable = false then s.answered l tag ps .portDisabled []
            else if s.portPermits (s.portOf r.config) .probe = false then s.answered l tag ps .portHeld []
            else match s.freeSlot? with
              | none => s.answered l tag ps .noSlot []
              | some n =>
                if 32 ≤ s.attributed l then s.answered l tag ps .noSlot []
                else settle [] s { s.accepted l tag ps with
                  records := s.records.put h.slot (r.withHealth (.probing cause))
                  pool := s.pool ++ [
                    { slot := n, origin := .releaseProbe l tag, attributed := l, handle := h,
                      snapshot := s.snapshot r.config, operation := .probe, index := none, length := none, data := [],
                      deadline := s.after (s.link l).config.defaultDeadline, epoch := s.epoch, retries := 0,
                      losses := 0, orphan := false }] })

/-- R114, R115, R116: an OK release probe makes its record ACTIVE with fault score 0, is answered OK, and
QUARANTINE_RELEASED is raised on the other link; a probe whose retries are used up returns it to QUARANTINED with its
cause. So does every other outcome of a probe that is no orphan: a fifth loss of arbitration, a held clock line, a failed
selection write, an INHIBIT abort, and the deadline of a QUEUED probe, each answered with that outcome. An orphan probe is
not answered; after an OK one QUARANTINE_RELEASED is raised on both links. The clock comes to an expiry (log 2). -/
def Obligations.ReleaseProbeOutcome : Prop :=
  (∀ (p : Port) (t : Txn) (l : Link) (tag : Tag) (r : Record) (cause : QuarantineCause) (data : List Byte) (s : State),
    s.active p t (.transferring t.slot) → t.origin = .releaseProbe l tag → t.orphan = false →
    tag ∈ (s.link l).outstanding → s.record? t.handle = some r → r.runtime.health = .probing cause →
    s.quiet t.handle → (s.engine p).abortPending = false →
    exec (.transferComplete p data) s = .next (settle [] s
      (raise l.other .quarantineReleased (.handle t.handle)
        ((releaseLines p s).completed p t l tag ((r.withHealth .active).withScore 0) .ok []))) ∧
    (t.snapshot.retryLimit ≤ t.retries → exec (.addressNack p) s = .next (settle [] s
      ((releaseLines p s).completed p t l tag (r.withHealth (.quarantined cause)) .addressNack [])))) ∧
  (∀ (p : Port) (t : Txn) (l : Link) (tag : Tag) (r : Record) (cause : QuarantineCause) (c : Instr) (o : Status)
    (s : State), s.activeTxn? p = some t → t.origin = .releaseProbe l tag → t.orphan = false →
    tag ∈ (s.link l).outstanding → s.record? t.handle = some r → r.runtime.health = .probing cause →
    s.quiet t.handle →
    (c = .arbitrationLoss p ∧ 4 ≤ t.losses ∧ (s.engine p).abortPending = false ∧ o = .arbitrationLost) ∨
      (c = .stretchLimit p ∧ o = .busStuck) ∨
      (c = .segmentFault p ∧ (∃ ws, (s.engine p).work = some (.selecting t.slot ws)) ∧
        (s.engine p).abortPending = false ∧ o = .segmentFault) ∨
      ((∃ acked, c = .inhibitAbort p acked) ∧ (s.engine p).abortPending = true ∧ o = .abortedInhibit) →
    ∃ u, exec c s = .next u ∧ u.record? t.handle = some (r.withHealth (.quarantined cause)) ∧
      (u.link l).queue = (s.link l).queue ++ [Response.mk tag o (t.result [])] ∧
      u.pool = s.pool.filter fun x => decide (x.slot ≠ t.slot)) ∧
  (∀ (slot : Nat) (t : Txn) (l : Link) (tag : Tag) (r : Record) (cause : QuarantineCause) (s : State),
    s.txn? slot = some t → s.isActive t = false → t.origin = .releaseProbe l tag → t.orphan = false →
    tag ∈ (s.link l).outstanding → s.record? t.handle = some r → r.runtime.health = .probing cause →
    s.quiet t.handle → exec (.transactionDeadline slot) s = .next (settle [] s
      ({ s with
        now := max s.now t.deadline
        records := s.records.put t.handle.slot (r.withHealth (.quarantined cause))
        pool := s.pool.filter fun u => decide (u.slot ≠ slot) }.setLink l { s.link l with
          outstanding := (s.link l).outstanding.erase tag
          queue := (s.link l).queue ++ [Response.mk tag .deadlineExpired (t.result [])] }))) ∧
  ∀ (p : Port) (t : Txn) (r : Record) (cause : QuarantineCause) (data : List Byte) (s : State),
    s.active p t (.transferring t.slot) → t.origin.isProbe = true → t.orphan = true → s.record? t.handle = some r →
    r.runtime.health = .probing cause → s.quiet t.handle → (s.engine p).abortPending = false →
    exec (.transferComplete p data) s = .next (settle [] s (raiseBoth .quarantineReleased (.handle t.handle)
      ((releaseLines p s).ended p t ((r.withHealth .active).withScore 0)))) ∧
    (t.snapshot.retryLimit ≤ t.retries → exec (.addressNack p) s = .next (settle [] s
      ((releaseLines p s).ended p t (r.withHealth (.quarantined cause)))))

/-- R110, R111, R117: QUARANTINE and CLEAR_SCORE, by the first check that fails, and their effect on the record. -/
def Obligations.QuarantineAndClearScore : Prop :=
  (∀ (l : Link) (tag : Tag) (ps : List Byte) (h : Handle) (s : State), s.accepts l tag ps → handleBlock? ps = some h →
    exec (.clearScore l tag ps) s = .next (match s.record? h with
      | none => s.answered l tag ps .staleHandle []
      | some r =>
        if r.config.readable l = false then s.answered l tag ps .accessDenied []
        else if r.runtime.health ≠ .active then s.answered l tag ps .notActive []
        else ({ s with records := s.records.put h.slot (r.withScore 0) }).answered l tag ps .ok
          [byteOf r.runtime.score])) ∧
  (∀ (l : Link) (tag : Tag) (ps : List Byte) (h : Handle) (s : State), s.accepts l tag ps → handleBlock? ps = some h →
    (s.record? h = none → exec (.quarantine l tag ps) s = .next (s.answered l tag ps .staleHandle [])) ∧
    ∀ r, s.record? h = some r →
      (r.config.readable l = false →
        exec (.quarantine l tag ps) s = .next (s.answered l tag ps .accessDenied [])) ∧
      (r.config.readable l = true →
        (∀ cause, r.runtime.health = .probing cause →
          exec (.quarantine l tag ps) s = .next (s.answered l tag ps .probeInProgress [])) ∧
        (∀ cause, r.runtime.health = .quarantined cause → exec (.quarantine l tag ps) s =
          .next (s.answered l tag ps .ok [byteOf cause.num, byteOf r.runtime.score])) ∧
        (r.runtime.health = .active → s.commitPending h = true →
          exec (.quarantine l tag ps) s = .next (s.answered l tag ps .commitPending [])) ∧
        (r.runtime.health = .active → s.commitPending h = false → s.tagsOwed →
          ∃ t, exec (.quarantine l tag ps) s = .next t ∧
            t.record? h = some (r.withHealth (.quarantined .operator)) ∧ t.reservation? h = none ∧
            (∀ x ∈ t.pool, x.handle = h → t.isActive x = true) ∧
            (t.link l).queue.getLast? = some (Response.mk tag .ok [2, byteOf r.runtime.score]) ∧
            ∀ m, ((t.link m).attention.find 5).map AttentionEntry.subject = some (.handle h))))

/-- R97, R107, R109: where a counted outcome brings an ACTIVE record's fault score to its threshold, the record is
QUARANTINED with cause BUDGET, its queued work and its reservation are gone, and both links are told. -/
def Obligations.ThresholdReachedQuarantines : Prop :=
  ∀ (c : Instr) (p : Port) (t : Txn) (r : Record) (s : State), s.active p t (.transferring t.slot) →
    (s.engine p).abortPending = false →
    (c = .dataNack p ∧ sendsBytes t = true ∨ c = .addressNack p ∧ t.snapshot.retryLimit ≤ t.retries) →
    s.record? t.handle = some r → r.runtime.health = .active → t.origin.isProbe = false →
    s.commitPending t.handle = false → r.config.threshold ≤ min (r.runtime.score + r.config.weight) 63 →
    ∃ u, exec c s = .next u ∧
      u.record? t.handle = some
        ((r.withHealth (.quarantined .budget)).withScore (min (r.runtime.score + r.config.weight) 63)) ∧
      u.reservation? t.handle = none ∧ (∀ x ∈ u.pool, x.handle = t.handle → u.isActive x = true) ∧
      ∀ m, ((u.link m).attention.find 5).map AttentionEntry.subject = some (.handle t.handle)

/-! ### Reservations -/

/-- R139, R140, R141, R144, R145: RESERVE and UNRESERVE, by the first check that fails, and the expiry of a
reservation, where no armed commit affects the record (RestReachesTheCommitPoint says what follows where one does). The
expiry brings the clock to its time and does nothing where there is no entry (log 2); a timer that is due and not yet
taken reads 1 ms (log 29). -/
def Obligations.Reservations : Prop :=
  (∀ (l : Link) (tag : Tag) (ps : List Byte) (h : Handle) (d : Nat) (s : State), s.accepts l tag ps →
    reserveBlock? ps = some (h, d) → exec (.reserve l tag ps) s = .next (match s.record? h with
      | none => s.answered l tag ps .staleHandle []
      | some r =>
        if r.config.readable l = false then s.answered l tag ps .accessDenied []
        else if r.runtime.health ≠ .active then s.answered l tag ps .quarantined []
        else if s.commitPending h = true then s.answered l tag ps .commitPending []
        else match s.reservation? h with
          | some x =>
            if x.holder ≠ l then s.answered l tag ps .reserved []
            else ({ s with reservations := s.reservations.map fun (y : Reservation) =>
                if y.handle = h then { y with expiry := s.after d } else y }).answered l tag ps .ok (1 :: wordOf d)
          | none =>
            if 16 ≤ s.reservations.length then s.answered l tag ps .noReservationSlot []
            else ({ s with reservations := s.reservations ++ [Reservation.mk h l (s.after d)] }).answered l tag ps .ok
              (0 :: wordOf d))) ∧
  (∀ (l : Link) (tag : Tag) (ps : List Byte) (h : Handle) (s : State), s.accepts l tag ps → handleBlock? ps = some h →
    s.commitPending h = false → exec (.unreserve l tag ps) s = .next (match s.record? h with
      | none => s.answered l tag ps .staleHandle []
      | some r =>
        if r.config.readable l = false then s.answered l tag ps .accessDenied []
        else match s.reservation? h with
          | none => s.answered l tag ps .notReserved []
          | some x =>
            if x.holder ≠ l then s.answered l tag ps .notHolder []
            else ({ s with reservations := s.reservations.filter fun y => decide (y.handle ≠ h) }).answered l tag ps
              .ok (wordOf (max 1 ((x.expiry - s.now + 9999) / 10000))))) ∧
  (∀ (h : Handle) (x : Reservation) (s : State), s.reservation? h = some x → s.commitPending h = false →
    exec (.reservationExpired h) s = .next ({ s with
      now := max s.now x.expiry
      reservations := s.reservations.filter fun y => decide (y.handle ≠ h) }.setLink x.holder { s.link x.holder with
        attention := (s.link x.holder).attention.put 10
          (s.raisedEntry x.holder .reservationExpired (.handle h)) })) ∧
  ∀ (h : Handle) (s : State), s.reservation? h = none → exec (.reservationExpired h) s = .next s

/-- R7, R42, R43, R108, R148: an armed commit reaches its commit point when its last affected record comes to rest: by
the expiry or the release of the last reservation, or by the removal of the last transaction. Where the tables are
canonical, the tags owed and the affected set the one of R38 (TablesStaySorted, OutstandingTagsStayOwed,
DirectoryLawsAreKept), the runtime parts are fresh or kept, the COMMIT is answered OK with its counts, and the other link
has DIRECTORY_CHANGED. -/
def Obligations.RestReachesTheCommitPoint : Prop :=
  ∀ (l : Link) (g : Configuration) (k : CommitRecord) (h : Handle) (s : State), s.session = .armed l g k →
    h ∈ k.affected →
    ∃ done : State → Prop, (done = fun t =>
        t.session = .absent ∧ t.epoch = s.epoch + 1 ∧ t.segments = g.segments ∧ t.groups = g.groups ∧
        (∀ n, (t.records.find n).map Record.config = g.endpoints.find n) ∧
        (s.tablesSorted → s.tagsOwed → k.affected = s.affectedBy g → s.answersCommit g l k.tag t)) ∧
      (∀ x, s.reservation? h = some x →
        (∀ j ∈ k.affected, s.inFlight j = 0 ∧ (j = h ∨ s.reservation? j = none)) →
        (∃ t, exec (.reservationExpired h) s = .next t ∧ done t) ∧
        ∀ tag ps r, s.accepts x.holder tag ps → handleBlock? ps = some h → s.record? h = some r →
          r.config.readable x.holder = true → ∃ t, exec (.unreserve x.holder tag ps) s = .next t ∧ done t) ∧
      ∀ slot y, s.txn? slot = some y → y.handle = h → s.isActive y = false →
        (∀ j ∈ k.affected, s.reservation? j = none ∧ ∀ z ∈ s.pool, z.handle = j → z.slot = slot) →
        ∃ t, exec (.transactionDeadline slot) s = .next t ∧ done t

/-! ### Group transactions -/

/-- R151 to R157, R162, for a group of one member: refused EMPTY_GROUP or NO_GROUP_CONTEXT; a member that fails a check
is reported at once; one that passes is placed, or waits for a slot. The slot is the lowest FREE one by the model's choice
(log 10). -/
def Obligations.GroupOfOneMember : Prop :=
  ∀ (l : Link) (tag : Tag) (ps : List Byte) (f : GroupFields) (s : State), s.accepts l tag ps →
    groupTransactBlock? ps = some f →
    (s.committed.group f.group = [] →
      exec (.groupTransact l tag ps) s = .next (s.answered l tag ps .emptyGroup [])) ∧
    (s.committed.group f.group ≠ [] → s.freeContext? = none →
      exec (.groupTransact l tag ps) s = .next (s.answered l tag ps .noGroupContext [])) ∧
    ∀ h c, s.committed.group f.group = [h] → s.freeContext? = some c →
      ∃ (x : MemberCondition → Context) (reported : Status → State),
        (x = fun m =>
          { link := l, tag := tag, group := f.group, operation := f.operation.operation, index := f.operation.index,
            length := f.operation.length, data := f.operation.data, policy := f.policy, deadline := s.after f.deadline,
            epoch := s.epoch, members := [{ handle := h, condition := m }], stopFlag := false }) ∧
        (reported = fun o =>
          ({ s with waiting :=
              if f.policy = Policy.stopOnFail then s.waiting.filter fun w => decide (w.1 ≠ c) else s.waiting }).answered
            l tag ps .ok
            ([byteOf f.group, byteOf c, byteOf f.operation.operation.num] ++ wordOf s.epoch.toNat ++
              wordOf s.epoch.toNat ++ [1, 0] ++ handleBytes h ++ [o.byte, 0])) ∧
        (s.record? h = none → exec (.groupTransact l tag ps) s = .next (reported .staleHandle)) ∧
        ∀ r, s.record? h = some r → exec (.groupTransact l tag ps) s = .next
          (if f.operation.operation ≠ .probe ∧ r.config.indexWidth ≠ 0 ∧
              indexFits r.config.indexWidth f.operation.index = false then reported .badParameter
           else if (r.config.access l).permits f.operation.operation = false then reported .accessDenied
           else if r.runtime.health ≠ .active then reported .skippedQuarantined
           else if s.reservedAgainst h l = true then reported .skippedReserved
           else if s.commitPending h = true then reported .skippedCommit
           else if (s.engine (s.portOf r.config)).config.enable = false ∨
              s.portPermits (s.portOf r.config) f.operation.operation = false then reported .skippedPort
           else match s.freeSlot?, decide (s.attributed l < 32) with
            | some n, true => settle [] s { s.accepted l tag ps with
                contexts := s.contexts.put c (x (.inFlight (s.portOf r.config)))
                pool := s.pool ++ [
                  { slot := n, origin := .member c 0, attributed := l, handle := h, snapshot := s.snapshot r.config,
                    operation := f.operation.operation,
                    index := if r.config.indexWidth = 0 ∨ f.operation.operation = .probe then none
                      else f.operation.index
                    length := f.operation.length, data := f.operation.data, deadline := s.after f.deadline,
                    epoch := s.epoch, retries := 0, losses := 0, orphan := false }] }
            | _, _ => { s.accepted l tag ps with
                contexts := s.contexts.put c (x (.waiting (s.portOf r.config)))
                waiting := s.waiting ++ [(c, 0)] })

/-- R151, R152, R153, R162: an accepted GROUP_TRANSACT makes a context with the members of the group in their order.
After the first issue pass every member holds an outcome, the report is the last response of the link's queue and the
context is free; or the context stands, no report has been delivered, at most one marker stands on a port, and a member is
PENDING only behind a marker on its port. -/
def Obligations.GroupPendingOnlyBehindAMarker : Prop :=
  ∀ (l : Link) (tag : Tag) (ps : List Byte) (f : GroupFields) (c : Nat) (s : State), s.accepts l tag ps →
    groupTransactBlock? ps = some f → s.committed.group f.group ≠ [] → s.freeContext? = some c →
    ∃ t x, exec (.groupTransact l tag ps) s = .next t ∧ x.link = l ∧ x.tag = tag ∧ x.group = f.group ∧
      x.operation = f.operation.operation ∧ x.index = f.operation.index ∧ x.length = f.operation.length ∧
      x.data = f.operation.data ∧ x.policy = f.policy ∧ x.deadline = s.after f.deadline ∧ x.epoch = s.epoch ∧
      x.members.map Member.handle = s.committed.group f.group ∧
      (((∀ m ∈ x.members, ∃ o read, m.condition = .finished o read) ∧ t.contexts.find c = none ∧
          (t.link l).queue = (s.link l).queue ++ [Response.mk tag .ok (x.report c s.epoch)]) ∨
        ((∃ m ∈ x.members, ∀ o read, m.condition ≠ .finished o read) ∧ t.contexts.find c = some x ∧
          (t.link l).queue = (s.link l).queue ∧ (x.members.filterMap fun m => m.condition.marker?).Nodup ∧
          ∀ m ∈ x.members, m.condition = .pending →
            ∃ r, s.record? m.handle = some r ∧ x.marked (s.portOf r.config) = true))

/-! ### Ports -/

/-- R79, R81, R82, R125: CONFIGURE_PORT replaces the whole configuration, and enabling a DISABLED engine makes its open
channel UNKNOWN; QUERY_PORT answers the 31 bytes of the port. The first holds where the change neither disables the
port nor completes its inhibit filter: the level of the input agrees with the presence of INHIBIT, or has not been held
for the new tINH. Where the losses are at the new threshold and ARBITRATION is absent, it joins at the request. -/
def Obligations.PortConfigurationAndQuery : Prop :=
  (∀ (l : Link) (tag : Tag) (ps : List Byte) (p : Port) (c : PortConfig) (s : State), s.accepts l tag ps →
    configurePortBlock? ps = some (p, c) → ((s.engine p).config.enable = true → c.enable = true) →
    (s.unit p).inhHigh ≠ (s.unit p).causes.inhibit ∨ s.now < (s.unit p).inhSince + c.tInh * 10000 →
    ∃ configured, configured = s.setEngine p { s.engine p with
        config := c
        openChannel := if (s.engine p).config.enable = false ∧ c.enable = true ∧ (s.engine p).work = none then .unknown
          else (s.engine p).openChannel } ∧
      ((s.unit p).losses < c.lossThreshold ∨ (s.unit p).causes.arbitration = true →
        exec (.configurePort l tag ps) s = .next (settle [] (s.accepted l tag ps)
          (configured.answered l tag ps .ok []))) ∧
      (c.lossThreshold ≤ (s.unit p).losses → (s.unit p).causes.arbitration = false →
        exec (.configurePort l tag ps) s = .next (settle [] (s.accepted l tag ps)
          ((raiseBoth .portHeld (.port p) (configured.setUnit p { s.unit p with
            state := .held, causes := { (s.unit p).causes with arbitration := true } })).answered l tag ps .ok [])))) ∧
  ∀ (l : Link) (tag : Tag) (ps : List Byte) (p : Port) (s : State), s.accepts l tag ps → portBlock? ps = some p →
    ∃ payload, payload =
        [if (s.engine p).config.enable then 1 else 0, byteOf (s.engine p).stateNum, byteOf (s.engine p).phaseNum] ++
        (match (s.engine p).openChannel with
          | .none => [0, 0, 0]
          | .unknown => [1, 0, 0]
          | .channel mux c => [2, mux.setWidth 8, c.setWidth 8]) ++
        [byteOf (s.engine p).pointer.num, byteOf (s.queue p).length, byteOf (s.queuedOf p .linkA),
          byteOf (s.queuedOf p .linkB), byteOf (s.queuedOf p .group), byteOf ((s.queue p).countP s.eligible)] ++
        (match s.activeTxn? p with
          | none => [0, 0, 0, 0, 0, 0, 0, 0]
          | some t => [1, byteOf t.origin.originClass.num, byteOf t.origin.contextNum] ++ handleBytes t.handle ++
              [byteOf t.operation.num] ++ wordOf t.epoch.toNat) ++
        portConfigBytes (s.engine p).config ++
        [byteOf (s.unit p).state.num, (s.unit p).causes.byte, byteOf (s.unit p).losses] ∧
      payload.length = 31 ∧ exec (.queryPort l tag ps) s = .next (s.answered l tag ps .ok payload)

/-- R79, R80: CONFIGURE_PORT with enable false leaves an enabled port with an empty queue. -/
def Obligations.DisableEmptiesTheQueue : Prop :=
  ∀ (l : Link) (tag : Tag) (ps : List Byte) (p : Port) (c : PortConfig) (s : State), s.accepts l tag ps →
    configurePortBlock? ps = some (p, c) → (s.engine p).config.enable = true → c.enable = false →
    ∃ t, exec (.configurePort l tag ps) s = .next t ∧ (t.engine p).config = c ∧ t.queue p = [] ∧
      ∀ q, q ≠ p → (t.engine q).config = (s.engine q).config

/-- R77, R78, R95, R96, R123: CLEAR_BUS starts a manual clear in an IDLE engine and is refused PORT_BUSY in every other; the
end of a clear leaves the open channel UNKNOWN and answers a manual one OK or BUS_STUCK; when a clear ends FREE; and the lines at the
end of one, of which a clear that ends HELD leaves one low, and the free-line measurement at 0. That the end carries what
the engine has read, that it changes nothing with no clear in hand, and which line a clear that ends HELD leaves low, the
clock as it was, are the model's choices (log 20, log 27, log 39). -/
def Obligations.BusClear : Prop :=
  (∀ (l : Link) (tag : Tag) (ps : List Byte) (p : Port) (s : State), s.accepts l tag ps → portBlock? ps = some p →
    exec (.clearBus l tag ps) s = .next
      (if (s.engine p).config.enable = true ∧ (s.engine p).work = none then
        (s.accepted l tag ps).setEngine p { s.engine p with
          work := some (.clearing (.manual (some (l, tag))))
          phase := some { items := [.pulses 9, .stop], speed := .standard,
                          stretch := (s.engine p).config.tStretch }
          since := s.now }
       else s.answered l tag ps .portBusy [])) ∧
  (∀ (p : Port) (kind : ClearKind) (reading : ClearReading) (s : State),
    (s.engine p).work = some (.clearing kind) →
    ∃ (lines ended : State),
      (clearFree reading = true → lines = putLines p true true false (putLines p true false false s) ∧
        ((s.unit p).freeLine ≠ .stopped → (lines.unit p).freeLine = .high s.now)) ∧
      (clearFree reading = false → ∃ scl sda, lines = putLines p scl sda (s.line p).otherMaster s ∧
        (scl = false ∨ sda = false) ∧ (reading.clockRises = false → scl = false ∧ sda = (s.line p).sda) ∧
        (reading.clockRises = true → sda = false ∧ (scl = false ↔ reading.dataHigh = false ∧
          ∃ k < 9, reading.pulses[k]? = some .clockHeld ∧ ∀ j < k, reading.pulses[j]? = some .dataLow)) ∧
        ((s.unit p).freeLine ≠ .stopped → (lines.unit p).freeLine = .low)) ∧
      ended = lines.setEngine p { s.engine p with work := none, phase := none, openChannel := .unknown } ∧
      ((∀ m tag, kind ≠ .manual (some (m, tag))) →
        exec (.busClearEnd p reading) s = .next (settle [] s ended)) ∧
      (∀ m tag, kind = .manual (some (m, tag)) → tag ∈ (s.link m).outstanding →
        exec (.busClearEnd p reading) s = .next (settle [] s (ended.setLink m { s.link m with
          outstanding := (s.link m).outstanding.erase tag
          queue := (s.link m).queue ++
            [Response.mk tag (if clearFree reading then .ok else .busStuck) []] })))) ∧
  (∀ (p : Port) (reading : ClearReading) (s : State), (∀ k, (s.engine p).work ≠ some (.clearing k)) →
    exec (.busClearEnd p reading) s = .next s) ∧
  ∀ r : ClearReading, clearFree r = true ↔ r.clockRises = true ∧ r.linesHigh = true ∧
    (r.dataHigh = true ∨ ∃ k < 9, r.pulses[k]? = some .dataHigh ∧ ∀ j < k, r.pulses[j]? = some .dataLow)

/-- R129, R130: RESUME_PORT by the containment state. -/
def Obligations.ResumePort : Prop :=
  (∀ (l : Link) (tag : Tag) (ps : List Byte) (s : State), s.accepts l tag ps → portBlock? ps = none →
    exec (.resumePort l tag ps) s = .next (s.answered l tag ps .badParameter [])) ∧
  ∀ (l : Link) (tag : Tag) (ps : List Byte) (p : Port) (s : State), s.accepts l tag ps → portBlock? ps = some p →
    exec (.resumePort l tag ps) s = .next (match (s.unit p).state with
      | .clear => s.answered l tag ps .notHeld []
      | .held => s.answered l tag ps .conditionPresent []
      | _ => settle [] s
          ((raiseBoth .portCleared (.port p) (s.setUnit p { s.unit p with state := .clear })).answered l tag ps .ok []))

/-! ### The arbiter and the phases -/

/-- R64 to R69: the end of a command changes nothing but engines; the arbiter of an IDLE engine takes the oldest
eligible transaction of the first class, from the one after the pointer, that has one; it takes none where none is
eligible, and none where the engine is not IDLE. The three conditions of eligibility (R67): no older transaction of its
queue has the same origin and handle, its record is neither under a TIMED form nor in poll-wait, and containment permits
its operation. That each arbiter runs once, at the end of the command that reached it, is the model's reading (log 11). -/
def Obligations.ArbiterTakesTheOldestOfTheTurn : Prop :=
  (∀ (told : List Port) (before s : State), ∃ engines, settle told before s = { s with engines := engines } ∧
    ∀ p, engines.get p = if p ∈ told ∨ arbiterDue before s p = true then (runArbiter p s).engine p else s.engine p) ∧
  (∀ (p : Port) (s : State), (s.engine p).config.enable = false ∨ (s.engine p).work ≠ none → runArbiter p s = s) ∧
  (∀ (p : Port) (s : State), (∀ t ∈ s.queue p, s.eligible t = false) → runArbiter p s = s) ∧
  (∀ (p : Port) (s : State), (s.engine p).config.enable = true → (s.engine p).work = none →
    (∃ t ∈ s.queue p, s.eligible t = true) →
    ∃ t older newer front back, s.queue p = older ++ t :: newer ∧ s.eligible t = true ∧
      (s.engine p).pointer.order = front ++ t.origin.originClass :: back ∧
      (∀ u ∈ s.queue p, s.eligible u = true → u.origin.originClass ∉ front) ∧
      (∀ u ∈ older, s.eligible u = true → u.origin.originClass ≠ t.origin.originClass) ∧
      runArbiter p s = s.setEngine p { s.engine p with
        work := some (match selectionWrites (s.engine p).openChannel t.snapshot.path (s.muxSet p) with
          | [] => if s.pollBusy t.handle = true then .polling t.slot else .transferring t.slot
          | writes => .selecting t.slot writes)
        phase := none, since := s.now, abortPending := false, pointer := t.origin.originClass }) ∧
  (∀ (p : Port) (t : Txn) (older newer : List Txn) (s : State), s.queue p = older ++ t :: newer → t ∉ older →
    (s.eligible t = true ↔
      (∀ u ∈ older, u.handle = t.handle → u.origin.same t.origin = false) ∧
      (∀ r, s.record? t.handle = some r →
        r.runtime.writeBusy = none ∨ ∃ window, r.runtime.writeBusy = some (.poll window none)) ∧
      ((s.unit p).state = .clear ∨ (s.engine p).config.mode = .flagOnly ∨
        (s.engine p).config.mode = .blockWrites ∧ t.operation ≠ .write))) ∧
  (∀ x y : Origin, x.same y = true ↔
    x.originClass = y.originClass ∧ ∀ c i d j, x = .member c i → y = .member d j → c = d) ∧
  (OriginClass.linkA.order = [.linkB, .group, .linkA] ∧ OriginClass.linkB.order = [.group, .linkA, .linkB] ∧
    OriginClass.group.order = [.linkA, .linkB, .group]) ∧
  ∀ (before after : State) (p : Port), arbiterDue before after p = true ↔
    ((before.engine p).config.enable = false ∨ (before.engine p).work ≠ none) ∨ before.queue p ≠ after.queue p ∨
      (before.unit p).state ≠ (after.unit p).state ∨
      (before.engine p).config.mode ≠ (after.engine p).config.mode

/-- R70, R71: the writes of a selection, from the open channel, and what each opens: in a recovery from UNKNOWN nothing
is known until the last zero write, which leaves NONE; and the multiplexers of a port. -/
def Obligations.SelectionWrites : Prop :=
  (∀ (o : OpenChannel) (ms : List BusAddress), selectionWrites o none ms = []) ∧
  (∀ (x : MuxPath) (ms : List BusAddress),
    selectionWrites .none (some x) ms = [⟨x.mux, some x.channel, .channel x.mux x.channel⟩] ∧
    ((selectionWrites .unknown (some x) ms).map fun w => (w.mux, w.channel)) =
      (ms.map fun m => (m, none)) ++ [(x.mux, some x.channel)] ∧
    ∀ m c, selectionWrites (.channel m c) (some x) ms =
      if m = x.mux then
        if c = x.channel then [] else [⟨x.mux, some x.channel, .channel x.mux x.channel⟩]
      else [⟨m, none, .none⟩, ⟨x.mux, some x.channel, .channel x.mux x.channel⟩]) ∧
  (∀ x : MuxPath, selectionWrites .unknown (some x) [] = [⟨x.mux, some x.channel, .channel x.mux x.channel⟩]) ∧
  (∀ (x : MuxPath) (ms : List BusAddress) (m : BusAddress), selectionWrites .unknown (some x) (ms ++ [m]) =
    (ms.map fun a => ⟨a, none, .unknown⟩) ++ [⟨m, none, .none⟩, ⟨x.mux, some x.channel, .channel x.mux x.channel⟩]) ∧
  (∀ w : SelectionWrite, w.mask = match w.channel with | none => 0 | some c => 1#8 <<< c.toNat) ∧
  ∀ (p : Port) (s : State), ((s.muxSet p).map BitVec.toNat).Pairwise (· < ·) ∧
    ∀ m, m ∈ s.muxSet p ↔ ∃ n g, (n, g) ∈ s.segments ∧ g.port = p ∧ g.mux = m

/-- R72, R85, R86, R87, R101: what a phase puts on the bus; the start of a phase on a bus that is free, once the gap has
passed (log 21), and that nothing starts otherwise (log 27). The speed of a selection write is read as its phase begins
(log 37). -/
def Obligations.PhaseStart : Prop :=
  (∀ (p : Port) (t : Txn) (ph : Phase) (s : State), s.activeTxn? p = some t → (s.engine p).phase = none →
    (s.line p).scl = true → (s.line p).sda = true → (s.line p).otherMaster = false →
    ph.stretch = (s.engine p).config.tStretch →
    ((∃ w rest, (s.engine p).work = some (.selecting t.slot (w :: rest)) ∧
        ph.items = [.start, .send (w.mux ++ 0#1), .send w.mask, .stop] ∧
        ph.speed = s.writeSpeed p t.snapshot.path w.mux) ∨
      ((s.engine p).work = some (.polling t.slot) ∧
        ph.items = [.start, .send (t.snapshot.address ++ 0#1), .stop] ∧ ph.speed = t.snapshot.speed) ∨
      ((s.engine p).work = some (.transferring t.slot) ∧ ph.items = transferShape t ∧
        ph.speed = t.snapshot.speed)) →
    exec (.phaseStart p) s = .next (putLines p true false false
      ({ s with now := max s.now ((s.line p).since + ph.speed.gap) }.setEngine p
        { s.engine p with phase := some ph }))) ∧
  (∀ (p : Port) (s : State), s.activeTxn? p = none ∨ (s.engine p).phase ≠ none ∨ (s.line p).scl = false ∨
    (s.line p).sda = false ∨ (s.line p).otherMaster = true → exec (.phaseStart p) s = .next s) ∧
  ∀ t : Txn, ∃ index : List BusItem,
    (index = match t.snapshot.indexWidth, t.index with
      | 0, _ => []
      | 1, i => [.send ((i.getD 0).extractLsb' 0 8)]
      | 2, i => [.send ((i.getD 0).extractLsb' 8 8), .send ((i.getD 0).extractLsb' 0 8)]
      | _, i => [.send ((i.getD 0).extractLsb' 16 8), .send ((i.getD 0).extractLsb' 8 8),
          .send ((i.getD 0).extractLsb' 0 8)]) ∧
    (t.operation = .probe → transferShape t = [.start, .send (t.snapshot.address ++ 0#1), .stop]) ∧
    (t.operation = .write → transferShape t =
      [.start, .send (t.snapshot.address ++ 0#1)] ++ index ++ t.data.map .send ++ [.stop]) ∧
    (t.operation = .read → t.snapshot.indexWidth = 0 → transferShape t =
      [.start, .send (t.snapshot.address ++ 1#1), .receive (t.length.getD 0), .stop]) ∧
    (t.operation = .read → t.snapshot.indexWidth ≠ 0 → transferShape t =
      [.start, .send (t.snapshot.address ++ 0#1)] ++ index ++
        [.repeatedStart, .send (t.snapshot.address ++ 1#1), .receive (t.length.getD 0), .stop])

/-- R65, R70, R73: an acknowledged selection write sets the open channel and the work goes on; one that is not
acknowledged ends the transaction with SEGMENT_FAULT, the open channel UNKNOWN, and both links are told. Both act whether
or not the phase's start has been reported (log 3), and change nothing without a selection in hand (log 27). A release
probe that so fails is in ReleaseProbeOutcome. -/
def Obligations.SelectionAckAndFault : Prop :=
  (∀ (p : Port) (t : Txn) (w : SelectionWrite) (rest : List SelectionWrite) (s : State),
    s.active p t (.selecting t.slot (w :: rest)) → (s.engine p).abortPending = false →
    exec (.selectionWriteAck p) s = .next (releaseLines p (s.setEngine p { s.engine p with
      phase := none, openChannel := w.opens
      work := some (match rest with
        | [] => if s.pollBusy t.handle = true then .polling t.slot else .transferring t.slot
        | _ => .selecting t.slot rest) }))) ∧
  (∀ (p : Port) (t : Txn) (ws : List SelectionWrite) (l : Link) (tag : Tag) (r : Record) (s : State),
    s.runs p t l tag r → (s.engine p).work = some (.selecting t.slot ws) → (s.engine p).abortPending = false →
    exec (.segmentFault p) s = .next (settle [] s (setOpen p .unknown
      ((raiseBoth .segmentFault (.segment t.snapshot.segment) (releaseLines p s)).completed p t l tag r
        .segmentFault [])))) ∧
  ∀ (p : Port) (s : State), (∀ n ws, (s.engine p).work ≠ some (.selecting n ws)) →
    exec (.selectionWriteAck p) s = .next s ∧ exec (.segmentFault p) s = .next s

/-- R75, R101, R102: an acknowledged poll ends write-busy and the transfer follows; a refused one starts a poll-wait of
1 ms and the transaction returns to its queue, or is completed where its deadline has passed (log 17) or the port is
disabling. Without a poll in hand both change nothing (log 27). A poll whose window has already ended is left out
(log 32). -/
def Obligations.RecoveryPolls : Prop :=
  (∀ (p : Port) (t : Txn) (r : Record) (w : Time) (x : Option Time) (s : State), s.active p t (.polling t.slot) →
    (s.engine p).abortPending = false → s.record? t.handle = some r → r.runtime.writeBusy = some (.poll w x) →
    exec (.recoveryPollAck p) s = .next ({ releaseLines p (s.setEngine p { s.engine p with
        phase := none, work := some (.transferring t.slot) }) with
      records := s.records.put t.handle.slot (r.withWriteBusy none) })) ∧
  (∀ (p : Port) (t : Txn) (r : Record) (w : Time) (x : Option Time) (s : State), s.active p t (.polling t.slot) →
    (s.engine p).abortPending = false → s.record? t.handle = some r → r.runtime.writeBusy = some (.poll w x) →
    (s.engine p).config.enable = true → s.now < t.deadline →
    exec (.recoveryPollNack p) s = .next (settle [] s { releaseLines p (s.setEngine p { s.engine p with
        phase := none, work := none }) with
      records := s.records.put t.handle.slot (r.withWriteBusy (some (.poll w (some (s.now + 10000))))) })) ∧
  (∀ (p : Port) (t : Txn) (l : Link) (tag : Tag) (r : Record) (w : Time) (x : Option Time) (s : State),
    s.runs p t l tag r → (s.engine p).work = some (.polling t.slot) → (s.engine p).abortPending = false →
    r.runtime.writeBusy = some (.poll w x) → (s.engine p).config.enable = false ∨ t.deadline ≤ s.now →
    exec (.recoveryPollNack p) s = .next (settle [] s ((releaseLines p s).completed p t l tag
      (r.withWriteBusy (some (.poll w (some (s.now + 10000)))))
      (if (s.engine p).config.enable = false then .cancelledDisable else .deadlineExpired) []))) ∧
  ∀ (p : Port) (s : State), (∀ n, (s.engine p).work ≠ some (.polling n)) →
    exec (.recoveryPollAck p) s = .next s ∧ exec (.recoveryPollNack p) s = .next s

/-- R59, R60, R87, R89, R90, R97, R99: how the transfer of a TRANSACT ends: OK, its score down by one and write recovery
begun after a WRITE; DATA_NACK, and ADDRESS_NACK with its retries used up, its score up by the record's weight. The
last two hold where the score stays below the threshold (ThresholdReachedQuarantines says the rest). Bytes that a device
does not drive read as 0xFF (log 19). R61: an orphan ends likewise and is answered nowhere. R153, R158, R159, R162: the
outcome of a member is recorded in its context, under the stop policy, and an issue pass follows, which delivers the
report where every member holds an outcome, and places the next PENDING member where it passes its checks, in the lowest
FREE slot (log 10). -/
def Obligations.TransferOutcomes : Prop :=
  (∀ (p : Port) (t : Txn) (l : Link) (tag : Tag) (r : Record) (s : State), s.runs p t l tag r →
    (s.engine p).work = some (.transferring t.slot) → (s.engine p).abortPending = false →
    (∀ data, exec (.transferComplete p data) s = .next (settle [] s ((releaseLines p s).completed p t l tag
      ((r.withScore (r.runtime.score - 1)).withWriteBusy (if t.operation = .write then
          match t.snapshot.recovery, r.config.recovery.window? with
          | .timed, some w => some (.timed (s.now + w * 10000))
          | .poll, some w => some (.poll (s.now + w * 10000) none)
          | _, _ => r.runtime.writeBusy
        else r.runtime.writeBusy))
      .ok (if t.operation = .read then
          data.take (t.length.getD 0) ++ List.replicate (t.length.getD 0 - data.length) 0xFF
        else [])))) ∧
    (r.runtime.health ≠ .active ∨ min (r.runtime.score + r.config.weight) 63 < r.config.threshold →
      (sendsBytes t = true → exec (.dataNack p) s = .next (settle [] s ((releaseLines p s).completed p t l tag
        (r.withScore (min (r.runtime.score + r.config.weight) 63)) .dataNack []))) ∧
      (t.snapshot.retryLimit ≤ t.retries → exec (.addressNack p) s = .next (settle [] s
        ((releaseLines p s).completed p t l tag
          (r.withScore (min (r.runtime.score + r.config.weight) 63)) .addressNack []))))) ∧
  ∀ (p : Port) (t : Txn) (r r' : Record) (c : Instr) (o : Status) (read : List Byte) (s : State),
    s.active p t (.transferring t.slot) → t.origin.isProbe = false → s.record? t.handle = some r → s.quiet t.handle →
    (s.engine p).abortPending = false → s.endsTransfer p t r c o read r' →
    (t.orphan = true → exec c s = .next (settle [] s ((releaseLines p s).ended p t r'))) ∧
    ∀ k i x, t.origin = .member k i → t.orphan = false → s.contexts.find k = some x →
      ∃ (stops : Bool) (y : Context) (u : State),
        stops = decide (x.policy = .stopOnFail ∧ x.stopFlag = false ∧ o ≠ .ok) ∧
        y = { x with
          members := (x.members.modify i fun m => { m with condition := .finished o read }).map fun m =>
            match stops, m.condition with
            | true, .pending => { m with condition := .finished .notAttempted [] }
            | true, .waiting _ => { m with condition := .finished .notAttempted [] }
            | _, _ => m
          stopFlag := x.stopFlag || stops } ∧
        u = (releaseLines p s).ended p t r' ∧
        exec c s = .next (settle [] s (issuePass k { u with contexts := s.contexts.put k y })) ∧
        ((∀ m ∈ y.members, ∃ e d, m.condition = .finished e d) → x.tag ∈ (s.link x.link).outstanding →
          issuePass k { u with contexts := s.contexts.put k y } =
            { u with contexts := s.contexts.remove k }.setLink x.link { s.link x.link with
              outstanding := (s.link x.link).outstanding.erase x.tag
              queue := (s.link x.link).queue ++ [Response.mk x.tag .ok (y.report k s.epoch)] }) ∧
        ∀ front back h z n, y.members = front ++ { handle := h, condition := .pending } :: back →
          (∀ m ∈ front ++ back, ∃ e d, m.condition = .finished e d) → u.record? h = some z →
          memberRefusal u y h z = none → u.freeSlot? = some n → u.attributed x.link < 32 → s.now < x.deadline →
          issuePass k { u with contexts := s.contexts.put k y } = { u with
            contexts := s.contexts.put k { y with
              members := front ++ { handle := h, condition := .inFlight (s.portOf z.config) } :: back }
            pool := u.pool ++ [
              { slot := n, origin := .member k front.length, attributed := x.link, handle := h,
                snapshot := s.snapshot z.config, operation := x.operation
                index := if z.config.indexWidth = 0 ∨ x.operation = .probe then none else x.index
                length := x.length, data := x.data, deadline := x.deadline, epoch := s.epoch, retries := 0,
                losses := 0, orphan := false }] }

/-- R89, R91, R124, R125: an address NACK below the retry limit is a retry; a loss of arbitration is counted by the
port, and the first four of a transaction begin new attempts and its fifth ends it; a port whose losses come to its
threshold is HELD. Another master's transfer is taken to go on after a loss until its STOP (log 35), the clock line high
and the data line low (log 38). Where an INHIBIT
abort waits for the byte boundary, the loss is counted and the abort is made (R133; log 18). -/
def Obligations.RetryAndLoss : Prop :=
  (∀ (p : Port) (t : Txn) (s : State), s.active p t (.transferring t.slot) → (s.engine p).abortPending = false →
    t.retries < t.snapshot.retryLimit → exec (.addressNack p) s = .next (settle [] s
      ({ releaseLines p (s.setEngine p { s.engine p with phase := none }) with
        pool := s.pool.map fun u => if u.slot = t.slot then { t with retries := t.retries + 1 } else u }))) ∧
  ∀ (p : Port) (t : Txn) (s : State), s.activeTxn? p = some t →
    ∃ (yielded counted held : State), (yielded = putLines p true false true
        (s.setEngine p { s.engine p with phase := none, since := s.now })) ∧
      (counted = yielded.setUnit p { yielded.unit p with
        losses := min ((s.unit p).losses + 1) 15, decay := some (s.now + 1000000) }) ∧
      (held = if (s.engine p).config.lossThreshold ≤ min ((s.unit p).losses + 1) 15 ∧
          (s.unit p).causes.arbitration = false then
        raiseBoth .portHeld (.port p) (counted.setUnit p { counted.unit p with
          state := .held, causes := { (s.unit p).causes with arbitration := true } })
        else counted) ∧
      ((s.engine p).abortPending = false → t.losses < 4 → exec (.arbitrationLoss p) s = .next (settle [] s { held with
        pool := s.pool.map fun u => if u.slot = t.slot then { t with losses := t.losses + 1 } else u })) ∧
      ∀ l tag r, s.runs p t l tag r →
        ((s.engine p).abortPending = false → 4 ≤ t.losses →
          exec (.arbitrationLoss p) s = .next (settle [] s (held.completed p t l tag r .arbitrationLost []))) ∧
        ((s.engine p).abortPending = true → exec (.arbitrationLoss p) s = .next (settle [] s
          (held.completed p { t with losses := if t.losses < 4 then t.losses + 1 else t.losses } l tag r
            .abortedInhibit [])))

/-- R92 to R96, R122, R123: a clock line held low for the stretch limit, and a data line held low for tSDA with the clock
line high before a START, end the
transaction with BUS_STUCK: STUCK joins the causes, or its measurement starts afresh where it is present, the score rises
by the weight, and the automatic bus clear begins. The first also ends a bus clear HELD, and a manual one is answered
BUS_STUCK. The clock comes to the end of the hold, which is counted from when the lines came to the levels that are held,
or from when the engine came to its work; a hold that was not seen begins then (log 2, log 36). That the limits change nothing without work or, for the
data line, with a phase under way is log 27; the level of the data line after a held clock is log 26. -/
def Obligations.BusStuck : Prop :=
  (∀ (p : Port) (t : Txn) (l : Link) (tag : Tag) (r : Record) (c : Instr) (scl sda : Bool) (expiry : Time) (s : State),
    s.runs p t l tag r →
    r.runtime.health ≠ .active ∨ min (r.runtime.score + r.config.weight) 63 < r.config.threshold →
    (c = .stretchLimit p ∧ scl = false ∧ sda = (s.line p).sda ∧
        expiry = (if (s.line p).scl = true then s.now else max (s.engine p).since (s.line p).sclSince) +
          (match (s.engine p).phase with | some x => x.stretch | none => (s.engine p).config.tStretch) * 10000) ∨
      (c = .sdaLowLimit p ∧ (s.engine p).phase = none ∧ scl = true ∧ sda = false ∧
        expiry = (if (s.line p).scl = true ∧ (s.line p).sda = false then
          max (s.engine p).since (max (s.line p).sclSince (s.line p).sdaSince) else s.now) + 50000) →
    ∃ (low stuck : State), low = { putLines p scl sda (s.line p).otherMaster s with now := max s.now expiry } ∧
      (stuck = if (s.unit p).causes.stuck = true then low.setUnit p { low.unit p with freeLine := .low }
        else raiseBoth .portHeld (.port p) (low.setUnit p { low.unit p with
          state := .held, freeLine := .low, causes := { (s.unit p).causes with stuck := true } })) ∧
      exec c s = .next (settle [] s ((stuck.completed p t l tag
        (r.withScore (min (r.runtime.score + r.config.weight) 63)) .busStuck []).setEngine p { s.engine p with
          work := some (.clearing .automatic)
          phase := some { items := [.pulses 9, .stop], speed := .standard, stretch := (s.engine p).config.tStretch }
          since := max s.now expiry
          abortPending := false
          openChannel := match (s.engine p).work with
            | some (.transferring _) => (s.engine p).openChannel
            | _ => .unknown }))) ∧
  (∀ (p : Port) (kind : ClearKind) (s : State), (s.engine p).work = some (.clearing kind) →
    ∃ (expiry : Time) (ended : State),
      expiry = (if (s.line p).scl = true then s.now else max (s.engine p).since (s.line p).sclSince) +
        (match (s.engine p).phase with | some x => x.stretch | none => (s.engine p).config.tStretch) * 10000 ∧
      ended = { putLines p false (s.line p).sda (s.line p).otherMaster s with now := max s.now expiry }.setEngine p
        { s.engine p with work := none, phase := none, openChannel := .unknown } ∧
      ((∀ m tag, kind ≠ .manual (some (m, tag))) → exec (.stretchLimit p) s = .next (settle [] s ended)) ∧
      ∀ m tag, kind = .manual (some (m, tag)) → tag ∈ (s.link m).outstanding →
        exec (.stretchLimit p) s = .next (settle [] s (ended.setLink m { s.link m with
          outstanding := (s.link m).outstanding.erase tag
          queue := (s.link m).queue ++ [Response.mk tag .busStuck []] }))) ∧
  (∀ (p : Port) (s : State), (s.engine p).work = none → exec (.stretchLimit p) s = .next s) ∧
  ∀ (p : Port) (s : State), (s.engine p).activeSlot? = none ∨ (s.engine p).phase ≠ none →
    exec (.sdaLowLimit p) s = .next s

/-- R126, R127, R133, R134: the inhibit filter: INHIBIT joins, and under BLOCK_ALL ends the ACTIVE transaction, at once
where no phase is under way and at the byte boundary otherwise; it leaves by the recovery method. The clock comes to the
end of the filter's time (log 2); the abort that waits for the byte boundary is marked until INHIBIT_ABORT or the end of
the phase (log 18); where no filter runs or no abort is marked, nothing changes (log 27). -/
def Obligations.InhibitFilterAndAbort : Prop :=
  (∀ (p : Port) (s : State), s.rstnLow = false → (s.unit p).inhHigh = false → (s.unit p).causes.inhibit = false →
    ∃ (now : Time) (joined : State), now = max s.now ((s.unit p).inhSince + (s.engine p).config.tInh * 10000) ∧
      (joined = raiseBoth .portHeld (.port p) ({ s with now := now }.setUnit p { s.unit p with
        state := .held, causes := { (s.unit p).causes with inhibit := true } })) ∧
      ((s.engine p).config.mode ≠ .blockAll ∨ (s.engine p).activeSlot? = none →
        exec (.inhibitFilterExpiry p) s = .next (settle [] s joined)) ∧
      ∀ t l tag r, s.runs p t l tag r → (s.engine p).config.mode = .blockAll →
        ((s.engine p).phase = none → exec (.inhibitFilterExpiry p) s = .next (settle [] s
          (joined.completed p t l tag r .abortedInhibit []))) ∧
        ((s.engine p).phase ≠ none → exec (.inhibitFilterExpiry p) s = .next (settle [] s
          (joined.setEngine p { s.engine p with abortPending := true })))) ∧
  (∀ (p : Port) (s : State), s.rstnLow = false → (s.unit p).inhHigh = true → (s.unit p).causes.inhibit = true →
    ∃ (now : Time) (left : ContainmentState → State),
      now = max s.now ((s.unit p).inhSince + (s.engine p).config.tInh * 10000) ∧
      (left = fun x => { s with now := now }.setUnit p { s.unit p with
        state := x, causes := { (s.unit p).causes with inhibit := false } }) ∧
      exec (.inhibitFilterExpiry p) s = .next (settle [] s
        (if (s.unit p).causes.stuck = true ∨ (s.unit p).causes.arbitration = true then left (s.unit p).state
         else match (s.engine p).config.recovery with
          | .auto => raiseBoth .portCleared (.port p) (left .clear)
          | .holdoff => left (.holdoff (now + (s.engine p).config.tHold * 10000))
          | .manual => left .awaitResume))) ∧
  (∀ (p : Port) (s : State), (s.unit p).inhHigh ≠ (s.unit p).causes.inhibit →
    exec (.inhibitFilterExpiry p) s = .next s) ∧
  (∀ (p : Port) (t : Txn) (l : Link) (tag : Tag) (r : Record) (acked : Bool) (s : State), s.runs p t l tag r →
    (s.engine p).abortPending = true → exec (.inhibitAbort p acked) s = .next (settle [] s
      (setOpen p (match (s.engine p).work, acked with
          | some (.selecting _ (w :: _)), true => w.opens
          | _, _ => (s.engine p).openChannel)
        ((releaseLines p s).completed p t l tag r .abortedInhibit [])))) ∧
  ∀ (p : Port) (acked : Bool) (s : State), (s.engine p).abortPending = false →
    exec (.inhibitAbort p acked) s = .next s

/-! ### Timers and pins -/

/-- R100, R102: the expiry of a TIMED form and the end of a poll window end write-busy, and the end of a poll-wait
leaves the form; the engine of the record's port is told; the clock comes to the expiry (log 2). -/
def Obligations.RecoveryExpiries : Prop :=
  ∀ (h : Handle) (s : State), (s.record? h = none → exec (.timedRecoveryExpiry h) s = .next s ∧
      exec (.pollWaitEnd h) s = .next s ∧ exec (.pollWindowEnd h) s = .next s) ∧
    ∀ r, s.record? h = some r →
      ∃ ended : Time → Option WriteBusy → State, (ended = fun expiry w =>
          settle [portOfSegment s.segments r.config.segment] s { s with
            now := max s.now expiry
            records := s.records.put h.slot (r.withWriteBusy w) }) ∧
        (∀ e, r.runtime.writeBusy = some (.timed e) →
          exec (.timedRecoveryExpiry h) s = .next (ended e none) ∧ exec (.pollWaitEnd h) s = .next s ∧
          exec (.pollWindowEnd h) s = .next s) ∧
        (∀ e x, r.runtime.writeBusy = some (.poll e x) →
          exec (.pollWindowEnd h) s = .next (ended e none) ∧ exec (.timedRecoveryExpiry h) s = .next s ∧
          ∀ w, x = some w → exec (.pollWaitEnd h) s = .next (ended w (some (.poll e none)))) ∧
        (r.runtime.writeBusy = none → exec (.timedRecoveryExpiry h) s = .next s ∧
          exec (.pollWaitEnd h) s = .next s ∧ exec (.pollWindowEnd h) s = .next s)

/-- R86, R92, R93, R123, R124, R125, R127, R128: the decay of the loss counter, the free-line measurement, the holdoff
timer, and the changes of a port's lines and of its inhibit input. Each expiry brings the clock to its time, and one whose
timer does not run changes nothing (log 2, log 27); the levels of the lines and the times of their changes are kept as the
model's own account of the bus (log 21), and a START is another master's where no phase of the engine is under way
(log 40). -/
def Obligations.ContainmentTimersAndPins : Prop :=
  (∀ (p : Port) (x : Time) (s : State), (s.unit p).decay = some x → 2 ≤ (s.unit p).losses →
    exec (.decayExpiry p) s = .next ({ s with now := max s.now x }.setUnit p { s.unit p with
      losses := (s.unit p).losses - 1, decay := some (max s.now x + 1000000) })) ∧
  (∀ (p : Port) (x : Time) (s : State), (s.unit p).decay = some x → (s.unit p).losses ≤ 1 →
    (s.unit p).causes.arbitration = false → exec (.decayExpiry p) s =
      .next ({ s with now := max s.now x }.setUnit p { s.unit p with losses := 0, decay := none })) ∧
  (∀ (p : Port) (x : Time) (s : State), (s.unit p).decay = some x → (s.unit p).losses ≤ 1 →
    (s.unit p).causes.arbitration = true →
    ∃ (now : Time) (left : ContainmentState → State), now = max s.now x ∧
      (left = fun y => { s with now := now }.setUnit p { s.unit p with
        losses := 0, decay := none, state := y, causes := { (s.unit p).causes with arbitration := false } }) ∧
      exec (.decayExpiry p) s = .next (settle [] s
        (if (s.unit p).causes.stuck = true ∨ (s.unit p).causes.inhibit = true then left (s.unit p).state
         else match (s.engine p).config.recovery with
          | .auto => raiseBoth .portCleared (.port p) (left .clear)
          | .holdoff => left (.holdoff (now + (s.engine p).config.tHold * 10000))
          | .manual => left .awaitResume))) ∧
  (∀ (p : Port) (since : Time) (s : State), (s.unit p).freeLine = .high since → (s.unit p).causes.stuck = true →
    ∃ (now : Time) (left : ContainmentState → State), now = max s.now (since + 10000) ∧
      (left = fun x => { s with now := now }.setUnit p { s.unit p with
        state := x, freeLine := .stopped, causes := { (s.unit p).causes with stuck := false } }) ∧
      exec (.freeLineExpiry p) s = .next (settle [] s
        (if (s.unit p).causes.arbitration = true ∨ (s.unit p).causes.inhibit = true then left (s.unit p).state
         else match (s.engine p).config.recovery with
          | .auto => raiseBoth .portCleared (.port p) (left .clear)
          | .holdoff => left (.holdoff (now + (s.engine p).config.tHold * 10000))
          | .manual => left .awaitResume))) ∧
  (∀ (p : Port) (since : Time) (s : State), (s.unit p).freeLine = .high since → (s.unit p).causes.stuck = false →
    exec (.freeLineExpiry p) s = .next (settle [] s ({ s with now := max s.now (since + 10000) }.setUnit p
      { s.unit p with freeLine := .stopped }))) ∧
  (∀ (p : Port) (x : Time) (s : State), (s.unit p).state = .holdoff x →
    exec (.holdoffExpiry p) s = .next (settle [] s (raiseBoth .portCleared (.port p)
      ({ s with now := max s.now x }.setUnit p { s.unit p with state := .clear })))) ∧
  (∀ (p : Port) (s : State), ((s.unit p).decay = none → exec (.decayExpiry p) s = .next s) ∧
    ((∀ x, (s.unit p).freeLine ≠ .high x) → exec (.freeLineExpiry p) s = .next s) ∧
    ((∀ x, (s.unit p).state ≠ .holdoff x) → exec (.holdoffExpiry p) s = .next s)) ∧
  (∀ (p : Port) (scl sda : Bool) (s : State), ∃ t, exec (.portLinesChange p scl sda) s = .next t ∧
    (t.line p).scl = scl ∧ (t.line p).sda = sda ∧
    (t.line p).sclSince = (if (s.line p).scl = scl then (s.line p).sclSince else s.now) ∧
    (t.line p).sdaSince = (if (s.line p).sda = sda then (s.line p).sdaSince else s.now) ∧
    (scl = true → (s.line p).scl = true → (s.line p).sda = true → sda = false → (s.engine p).phase = none →
      (t.line p).otherMaster = true) ∧
    (scl = true → (s.line p).scl = true → (s.line p).sda = false → sda = true → (t.line p).otherMaster = false) ∧
    ((s.unit p).freeLine = .stopped → (t.unit p).freeLine = .stopped) ∧
    ((s.unit p).freeLine ≠ .stopped → scl = false ∨ sda = false → (t.unit p).freeLine = .low) ∧
    ((s.unit p).freeLine = .low → scl = true → sda = true → (t.unit p).freeLine = .high s.now) ∧
    (∀ x, (s.unit p).freeLine = .high x → scl = true → sda = true → (t.unit p).freeLine = .high x) ∧
    t = (s.setLine p (t.line p)).setUnit p { s.unit p with freeLine := (t.unit p).freeLine }) ∧
  ∀ (p : Port) (high : Bool) (s : State), exec (.inhibitInputChange p high) s = .next
    (if (s.unit p).inhHigh = high then s
     else s.setUnit p { s.unit p with inhHigh := high, inhSince := s.now })

/-! ### Resets and attention -/

/-- R46, R61, R63, R78, R149, R163, R180: LINK_RESET leaves its own response as the link's one entry, no attention, no
tag, no session, context or reservation of the link, and no transaction attributed to it but orphans; what is
configured stays. -/
def Obligations.LinkReset : Prop :=
  ∀ (l : Link) (tag : Tag) (ps : List Byte) (s : State), s.rstnLow = false → ps.length ≤ 64 →
    ∃ t, exec (.linkReset l tag ps) s = .next t ∧ (t.link l).queue = [Response.mk tag .ok []] ∧
      (t.link l).outstanding = [] ∧ (t.link l).attention = [] ∧ (t.link l).frameErrors = 0 ∧
      (t.link l).config = (s.link l).config ∧ t.session.holder? ≠ some l ∧
      (∀ c x, t.contexts.find c = some x → x.link ≠ l) ∧ (∀ r ∈ t.reservations, r.holder ≠ l) ∧
      (∀ x ∈ t.pool, x.attributed = l → x.orphan = true) ∧
      (∀ p m g, (t.engine p).work = some (.clearing (.manual (some (m, g)))) → m ≠ l) ∧
      (t.link l.other).config = (s.link l.other).config ∧
      (t.link l.other).frameErrors = (s.link l.other).frameErrors ∧ ∀ p, (t.engine p).config = (s.engine p).config

/-- R23, R46, R62, R84, R104, R136, R149, R164, R181: SOFT_RESET keeps the committed configuration, what is configured
and the records with their scores and quarantines, and ends everything else; both links hold SOFT_RESET_DONE, and the
requesting link the one response. -/
def Obligations.SoftReset : Prop :=
  ∀ (l : Link) (tag : Tag) (ps : List Byte) (s : State), s.rstnLow = false → ps.length ≤ 64 →
    ∃ t, exec (.softReset l tag ps) s = .next t ∧
      (t.generations = s.generations ∧ t.segments = s.segments ∧ t.groups = s.groups ∧ t.epoch = s.epoch ∧
        t.tSess = s.tSess ∧ t.tCmt = s.tCmt ∧ t.now = s.now ∧ t.pending = s.pending) ∧
      (∀ n, t.records.find n = (s.records.find n).map fun r =>
        (r.withHealth (match r.runtime.health with | .probing c => .quarantined c | h => h)).withWriteBusy none) ∧
      (t.session = .absent ∧ t.pool = [] ∧ t.waiting = [] ∧ t.reservations = [] ∧ t.contexts = []) ∧
      (∀ p, t.engine p = { s.engine p with
        work := none, phase := none, abortPending := false, openChannel := .unknown, pointer := .group }) ∧
      (∀ p, t.unit p = {
        state := .clear, causes := { stuck := false, arbitration := false, inhibit := false },
        freeLine := .stopped, losses := 0, decay := none, inhHigh := (s.unit p).inhHigh, inhSince := s.now }) ∧
      (∀ m, (t.link m).outstanding = [] ∧ (t.link m).attention = [(1, { subject := .none, count := 1 })] ∧
        (t.link m).frameErrors = 0 ∧ (t.link m).config = (s.link m).config) ∧
      (t.link l).queue = [Response.mk tag .ok []] ∧ (t.link l.other).queue = []

/-- R174, R176: a raise replaces the subject of a kind's entry and raises its count, which saturates at 255, and
changes no other entry; when ALERT is driven low. -/
def Obligations.AttentionEntriesAndAlert : Prop :=
  (∀ (l : Link) (k : AttentionKind) (x : Subject) (s : State), ∃ t, t = raise l k x s ∧
    (t.link l).attention.find k.num = some { subject := x, count := match (s.link l).attention.find k.num with
      | none => 1
      | some e => min (e.count + 1) 255 } ∧
    (∀ n, n ≠ k.num → (t.link l).attention.find n = (s.link l).attention.find n) ∧
    t = s.setLink l { s.link l with attention := (t.link l).attention }) ∧
  ∀ (l : Link) (s : State), s.alertLow l = true ↔ s.rstnLow = false ∧
    ((∃ n e, (n, e) ∈ (s.link l).attention ∧ (s.link l).config.alertMask.getLsbD n = true) ∨
      ((s.link l).queue ≠ [] ∧ (s.link l).config.responseAlert = true))

/-! ### Invariants -/

/-- R170: on each link, the tags that are outstanding and those of the response queue stay distinct. -/
def Obligations.TagsStayDistinct : Prop :=
  ∀ s t : State, s.tagsDistinct → step s = .next t → t.tagsDistinct

/-- R37, R47, R78, R150, R170: the outstanding tags of a link stay exactly those that work in the part will answer, each
owed once, so that no accepted request is forgotten and none is answered twice. -/
def Obligations.OutstandingTagsStayOwed : Prop :=
  ∀ s t : State, s.tagsOwed → step s = .next t → t.tagsOwed

/-- R127: the cause set of a port stays empty in every containment state but HELD, and not empty in HELD. -/
def Obligations.ContainmentStaysConsistent : Prop :=
  ∀ s t : State, s.containmentConsistent → step s = .next t → t.containmentConsistent

/-- R52: the slots in use stay distinct and below 48, and no link is attributed more than 32. -/
def Obligations.PoolStaysBounded : Prop :=
  ∀ s t : State, s.poolBounded → step s = .next t → t.poolBounded

/-- Every table stays in its canonical form, its keys strictly rising, so that equal contents are equal data. -/
def Obligations.TablesStaySorted : Prop :=
  ∀ s t : State, s.tablesSorted → step s = .next t → t.tablesSorted

/-- R2, R14, R43: but for RSTN, no step changes the committed configuration, a generation or the epoch, unless it takes
the commit point: then the epoch is one more, the staging view is committed, the generations of the retired slots are
one more, and the session is over. -/
def Obligations.DirectoryChangesOnlyAtACommitPoint : Prop :=
  ∀ s t : State, s.tablesSorted → (∀ c rest, s.pending = c :: rest → c.isRstn = false) → step s = .next t →
    (t.epoch = s.epoch ∧ t.segments = s.segments ∧ t.groups = s.groups ∧ (∀ n, t.generation n = s.generation n) ∧
      ∀ n, (t.records.find n).map Record.config = (s.records.find n).map Record.config) ∨
    ∃ g, s.session.staging? = some g ∧ t.session = .absent ∧ t.epoch = s.epoch + 1 ∧ t.segments = g.segments ∧
      t.groups = g.groups ∧ (∀ n, (t.records.find n).map Record.config = g.endpoints.find n) ∧
      ∀ n, t.generation n =
        if (s.records.find n).isSome = true ∧ g.endpoints.find n = none then s.generation n + 1 else s.generation n

/-- The invariants hold after reset. -/
def Obligations.InvariantsHoldAtReset : Prop :=
  State.reset.tagsDistinct ∧ State.reset.tagsOwed ∧ State.reset.containmentConsistent ∧ State.reset.poolBounded ∧
    State.reset.tablesSorted ∧ State.reset.directoryLaws

/-- R4, R6, R11, R12, R38, R106: the laws of the directory stay kept from a state whose tables are canonical: in the
committed and in the staging view, fields in range, locations, labels and paths distinct, no bus address that is a
multiplexer's on its port, every segment present and every group member LIVE; a QUARANTINED or PROBING record has no
reservation and an ACTIVE one is below its threshold; and the affected set of an armed commit is the one its views give. -/
def Obligations.DirectoryLawsAreKept : Prop :=
  ∀ s t : State, s.tablesSorted → s.directoryLaws → step s = .next t → t.directoryLaws
end

