-- ==== Sys2Proof/Laws/Tables.lean ====
section
/-! SUPPORT. Laws of the sparse tables and of the values held per link and per port. -/
namespace Sys2Proof

@[simp] theorem Table.find_nil {α : Type} (k : Nat) : Table.find ([] : Table α) k = none := rfl

@[simp] theorem Table.find_put_self {α : Type} (t : Table α) (k : Nat) (v : α) : (t.put k v).find k = some v := by
  induction t with
  | nil => simp [Table.put, Table.find]
  | cons e rest ih =>
    obtain ⟨j, x⟩ := e
    rw [Table.put]
    split
    · simp [Table.find]
    · split
      · simp [Table.find]
      · rename_i h1 h2
        simp only [Table.find, ih]
        rw [if_neg (fun h => h2 h.symm)]

theorem Table.find_put_ne {α : Type} (t : Table α) (k n : Nat) (v : α) (h : n ≠ k) :
    (t.put k v).find n = t.find n := by
  induction t with
  | nil => simp [Table.put, Table.find, Ne.symm h]
  | cons e rest ih =>
    obtain ⟨j, x⟩ := e
    rw [Table.put]
    split
    · rw [Table.find, if_neg (Ne.symm h)]
    · split
      · rename_i h1 h2
        simp [Table.find, Ne.symm h, ← h2]
      · simp only [Table.find, ih]

theorem Table.find_put {α : Type} (t : Table α) (k n : Nat) (v : α) :
    (t.put k v).find n = if n = k then some v else t.find n := by
  split
  · next h => rw [h, Table.find_put_self]
  · next h => exact Table.find_put_ne t k n v h

@[simp] theorem Table.find_remove_self {α : Type} (t : Table α) (k : Nat) : (t.remove k).find k = none := by
  induction t with
  | nil => rfl
  | cons e rest ih =>
    obtain ⟨j, x⟩ := e
    unfold Table.remove at ih ⊢
    rw [List.filter_cons]
    split
    · rename_i h
      rw [Table.find, if_neg (by simpa using h)]
      exact ih
    · exact ih

theorem Table.find_remove_ne {α : Type} (t : Table α) (k n : Nat) (h : n ≠ k) : (t.remove k).find n = t.find n := by
  induction t with
  | nil => rfl
  | cons e rest ih =>
    obtain ⟨j, x⟩ := e
    unfold Table.remove at ih ⊢
    rw [List.filter_cons]
    split
    · simp only [Table.find]
      rw [ih]
    · rename_i hj
      have : j = k := by simpa using hj
      rw [ih, Table.find, if_neg (by omega)]

@[simp] theorem Table.find_mapValues {α β : Type} (f : Nat → α → β) (t : Table α) (n : Nat) :
    (t.mapValues f).find n = (t.find n).map (f n) := by
  induction t with
  | nil => rfl
  | cons e rest ih =>
    obtain ⟨j, x⟩ := e
    unfold Table.mapValues at ih ⊢
    rw [List.map_cons, Table.find]
    split
    · next h =>
      have hj : j = n := h
      subst hj
      simp [Table.find]
    · next h => rw [ih, Table.find, if_neg h]

@[simp] theorem Link.other_other (l : Link) : l.other.other = l := by
  cases l <;> rfl

theorem Link.other_ne (l : Link) : l.other ≠ l := by
  cases l <;> decide

theorem Port.mem_all (p : Port) : p ∈ Port.all := by
  cases p <;> decide

namespace Machine

@[simp] theorem PerLink.get_set_self {α : Type} (x : PerLink α) (l : Link) (v : α) : (x.set l v).get l = v := by
  cases l <;> rfl

theorem PerLink.get_set_ne {α : Type} (x : PerLink α) (l m : Link) (v : α) (h : m ≠ l) :
    (x.set l v).get m = x.get m := by
  cases l <;> cases m <;> first | rfl | exact absurd rfl h

@[simp] theorem PerLink.set_set {α : Type} (x : PerLink α) (l : Link) (v w : α) : (x.set l v).set l w = x.set l w := by
  cases l <;> rfl

@[simp] theorem PerLink.set_get {α : Type} (x : PerLink α) (l : Link) : x.set l (x.get l) = x := by
  cases l <;> rfl

theorem PerLink.get_set {α : Type} (x : PerLink α) (l m : Link) (v : α) :
    (x.set l v).get m = if m = l then v else x.get m := by
  cases l <;> cases m <;> rfl

@[simp] theorem PerPort.get_set_self {α : Type} (x : PerPort α) (p : Port) (v : α) : (x.set p v).get p = v := by
  cases p <;> rfl

theorem PerPort.get_set_ne {α : Type} (x : PerPort α) (p q : Port) (v : α) (h : q ≠ p) :
    (x.set p v).get q = x.get q := by
  cases p <;> cases q <;> first | rfl | exact absurd rfl h

theorem PerPort.get_set {α : Type} (x : PerPort α) (p q : Port) (v : α) :
    (x.set p v).get q = if q = p then v else x.get q := by
  cases p <;> cases q <;> rfl

@[simp] theorem PerPort.set_set {α : Type} (x : PerPort α) (p : Port) (v w : α) : (x.set p v).set p w = x.set p w := by
  cases p <;> rfl

@[simp] theorem PerPort.set_get {α : Type} (x : PerPort α) (p : Port) : x.set p (x.get p) = x := by
  cases p <;> rfl

@[simp] theorem PerPort.get_map {α β : Type} (f : α → β) (x : PerPort α) (p : Port) : (x.map f).get p = f (x.get p) := by
  cases p <;> rfl

end Machine
end Sys2Proof
end

