-- ==== Sys2Proof/Laws/State.lean ====
section
/-! SUPPORT. One lemma for each field and each named update of the state, so that no proof unfolds a record update. -/
namespace Sys2Proof.Machine

@[simp] theorem State.setLink_now (s : State) (l : Link) (i : LinkState) : (s.setLink l i).now = s.now := rfl
@[simp] theorem State.setLink_rstnLow (s : State) (l : Link) (i : LinkState) : (s.setLink l i).rstnLow = s.rstnLow := rfl
@[simp] theorem State.setLink_linkBAddress (s : State) (l : Link) (i : LinkState) : (s.setLink l i).linkBAddress = s.linkBAddress := rfl
@[simp] theorem State.setLink_tSess (s : State) (l : Link) (i : LinkState) : (s.setLink l i).tSess = s.tSess := rfl
@[simp] theorem State.setLink_tCmt (s : State) (l : Link) (i : LinkState) : (s.setLink l i).tCmt = s.tCmt := rfl
@[simp] theorem State.setLink_records (s : State) (l : Link) (i : LinkState) : (s.setLink l i).records = s.records := rfl
@[simp] theorem State.setLink_generations (s : State) (l : Link) (i : LinkState) : (s.setLink l i).generations = s.generations := rfl
@[simp] theorem State.setLink_segments (s : State) (l : Link) (i : LinkState) : (s.setLink l i).segments = s.segments := rfl
@[simp] theorem State.setLink_groups (s : State) (l : Link) (i : LinkState) : (s.setLink l i).groups = s.groups := rfl
@[simp] theorem State.setLink_epoch (s : State) (l : Link) (i : LinkState) : (s.setLink l i).epoch = s.epoch := rfl
@[simp] theorem State.setLink_session (s : State) (l : Link) (i : LinkState) : (s.setLink l i).session = s.session := rfl
@[simp] theorem State.setLink_pool (s : State) (l : Link) (i : LinkState) : (s.setLink l i).pool = s.pool := rfl
@[simp] theorem State.setLink_waiting (s : State) (l : Link) (i : LinkState) : (s.setLink l i).waiting = s.waiting := rfl
@[simp] theorem State.setLink_engines (s : State) (l : Link) (i : LinkState) : (s.setLink l i).engines = s.engines := rfl
@[simp] theorem State.setLink_lines (s : State) (l : Link) (i : LinkState) : (s.setLink l i).lines = s.lines := rfl
@[simp] theorem State.setLink_units (s : State) (l : Link) (i : LinkState) : (s.setLink l i).units = s.units := rfl
@[simp] theorem State.setLink_reservations (s : State) (l : Link) (i : LinkState) : (s.setLink l i).reservations = s.reservations := rfl
@[simp] theorem State.setLink_contexts (s : State) (l : Link) (i : LinkState) : (s.setLink l i).contexts = s.contexts := rfl
@[simp] theorem State.setLink_pending (s : State) (l : Link) (i : LinkState) : (s.setLink l i).pending = s.pending := rfl

@[simp] theorem State.setEngine_now (s : State) (p : Port) (e : Engine) : (s.setEngine p e).now = s.now := rfl
@[simp] theorem State.setEngine_rstnLow (s : State) (p : Port) (e : Engine) : (s.setEngine p e).rstnLow = s.rstnLow := rfl
@[simp] theorem State.setEngine_linkBAddress (s : State) (p : Port) (e : Engine) : (s.setEngine p e).linkBAddress = s.linkBAddress := rfl
@[simp] theorem State.setEngine_tSess (s : State) (p : Port) (e : Engine) : (s.setEngine p e).tSess = s.tSess := rfl
@[simp] theorem State.setEngine_tCmt (s : State) (p : Port) (e : Engine) : (s.setEngine p e).tCmt = s.tCmt := rfl
@[simp] theorem State.setEngine_records (s : State) (p : Port) (e : Engine) : (s.setEngine p e).records = s.records := rfl
@[simp] theorem State.setEngine_generations (s : State) (p : Port) (e : Engine) : (s.setEngine p e).generations = s.generations := rfl
@[simp] theorem State.setEngine_segments (s : State) (p : Port) (e : Engine) : (s.setEngine p e).segments = s.segments := rfl
@[simp] theorem State.setEngine_groups (s : State) (p : Port) (e : Engine) : (s.setEngine p e).groups = s.groups := rfl
@[simp] theorem State.setEngine_epoch (s : State) (p : Port) (e : Engine) : (s.setEngine p e).epoch = s.epoch := rfl
@[simp] theorem State.setEngine_session (s : State) (p : Port) (e : Engine) : (s.setEngine p e).session = s.session := rfl
@[simp] theorem State.setEngine_pool (s : State) (p : Port) (e : Engine) : (s.setEngine p e).pool = s.pool := rfl
@[simp] theorem State.setEngine_waiting (s : State) (p : Port) (e : Engine) : (s.setEngine p e).waiting = s.waiting := rfl
@[simp] theorem State.setEngine_lines (s : State) (p : Port) (e : Engine) : (s.setEngine p e).lines = s.lines := rfl
@[simp] theorem State.setEngine_units (s : State) (p : Port) (e : Engine) : (s.setEngine p e).units = s.units := rfl
@[simp] theorem State.setEngine_reservations (s : State) (p : Port) (e : Engine) : (s.setEngine p e).reservations = s.reservations := rfl
@[simp] theorem State.setEngine_contexts (s : State) (p : Port) (e : Engine) : (s.setEngine p e).contexts = s.contexts := rfl
@[simp] theorem State.setEngine_links (s : State) (p : Port) (e : Engine) : (s.setEngine p e).links = s.links := rfl
@[simp] theorem State.setEngine_pending (s : State) (p : Port) (e : Engine) : (s.setEngine p e).pending = s.pending := rfl

@[simp] theorem State.setUnit_now (s : State) (p : Port) (u : Containment) : (s.setUnit p u).now = s.now := rfl
@[simp] theorem State.setUnit_rstnLow (s : State) (p : Port) (u : Containment) : (s.setUnit p u).rstnLow = s.rstnLow := rfl
@[simp] theorem State.setUnit_linkBAddress (s : State) (p : Port) (u : Containment) : (s.setUnit p u).linkBAddress = s.linkBAddress := rfl
@[simp] theorem State.setUnit_tSess (s : State) (p : Port) (u : Containment) : (s.setUnit p u).tSess = s.tSess := rfl
@[simp] theorem State.setUnit_tCmt (s : State) (p : Port) (u : Containment) : (s.setUnit p u).tCmt = s.tCmt := rfl
@[simp] theorem State.setUnit_records (s : State) (p : Port) (u : Containment) : (s.setUnit p u).records = s.records := rfl
@[simp] theorem State.setUnit_generations (s : State) (p : Port) (u : Containment) : (s.setUnit p u).generations = s.generations := rfl
@[simp] theorem State.setUnit_segments (s : State) (p : Port) (u : Containment) : (s.setUnit p u).segments = s.segments := rfl
@[simp] theorem State.setUnit_groups (s : State) (p : Port) (u : Containment) : (s.setUnit p u).groups = s.groups := rfl
@[simp] theorem State.setUnit_epoch (s : State) (p : Port) (u : Containment) : (s.setUnit p u).epoch = s.epoch := rfl
@[simp] theorem State.setUnit_session (s : State) (p : Port) (u : Containment) : (s.setUnit p u).session = s.session := rfl
@[simp] theorem State.setUnit_pool (s : State) (p : Port) (u : Containment) : (s.setUnit p u).pool = s.pool := rfl
@[simp] theorem State.setUnit_waiting (s : State) (p : Port) (u : Containment) : (s.setUnit p u).waiting = s.waiting := rfl
@[simp] theorem State.setUnit_engines (s : State) (p : Port) (u : Containment) : (s.setUnit p u).engines = s.engines := rfl
@[simp] theorem State.setUnit_lines (s : State) (p : Port) (u : Containment) : (s.setUnit p u).lines = s.lines := rfl
@[simp] theorem State.setUnit_reservations (s : State) (p : Port) (u : Containment) : (s.setUnit p u).reservations = s.reservations := rfl
@[simp] theorem State.setUnit_contexts (s : State) (p : Port) (u : Containment) : (s.setUnit p u).contexts = s.contexts := rfl
@[simp] theorem State.setUnit_links (s : State) (p : Port) (u : Containment) : (s.setUnit p u).links = s.links := rfl
@[simp] theorem State.setUnit_pending (s : State) (p : Port) (u : Containment) : (s.setUnit p u).pending = s.pending := rfl

@[simp] theorem State.setLine_now (s : State) (p : Port) (x : Lines) : (s.setLine p x).now = s.now := rfl
@[simp] theorem State.setLine_rstnLow (s : State) (p : Port) (x : Lines) : (s.setLine p x).rstnLow = s.rstnLow := rfl
@[simp] theorem State.setLine_linkBAddress (s : State) (p : Port) (x : Lines) : (s.setLine p x).linkBAddress = s.linkBAddress := rfl
@[simp] theorem State.setLine_tSess (s : State) (p : Port) (x : Lines) : (s.setLine p x).tSess = s.tSess := rfl
@[simp] theorem State.setLine_tCmt (s : State) (p : Port) (x : Lines) : (s.setLine p x).tCmt = s.tCmt := rfl
@[simp] theorem State.setLine_records (s : State) (p : Port) (x : Lines) : (s.setLine p x).records = s.records := rfl
@[simp] theorem State.setLine_generations (s : State) (p : Port) (x : Lines) : (s.setLine p x).generations = s.generations := rfl
@[simp] theorem State.setLine_segments (s : State) (p : Port) (x : Lines) : (s.setLine p x).segments = s.segments := rfl
@[simp] theorem State.setLine_groups (s : State) (p : Port) (x : Lines) : (s.setLine p x).groups = s.groups := rfl
@[simp] theorem State.setLine_epoch (s : State) (p : Port) (x : Lines) : (s.setLine p x).epoch = s.epoch := rfl
@[simp] theorem State.setLine_session (s : State) (p : Port) (x : Lines) : (s.setLine p x).session = s.session := rfl
@[simp] theorem State.setLine_pool (s : State) (p : Port) (x : Lines) : (s.setLine p x).pool = s.pool := rfl
@[simp] theorem State.setLine_waiting (s : State) (p : Port) (x : Lines) : (s.setLine p x).waiting = s.waiting := rfl
@[simp] theorem State.setLine_engines (s : State) (p : Port) (x : Lines) : (s.setLine p x).engines = s.engines := rfl
@[simp] theorem State.setLine_units (s : State) (p : Port) (x : Lines) : (s.setLine p x).units = s.units := rfl
@[simp] theorem State.setLine_reservations (s : State) (p : Port) (x : Lines) : (s.setLine p x).reservations = s.reservations := rfl
@[simp] theorem State.setLine_contexts (s : State) (p : Port) (x : Lines) : (s.setLine p x).contexts = s.contexts := rfl
@[simp] theorem State.setLine_links (s : State) (p : Port) (x : Lines) : (s.setLine p x).links = s.links := rfl
@[simp] theorem State.setLine_pending (s : State) (p : Port) (x : Lines) : (s.setLine p x).pending = s.pending := rfl

@[simp] theorem State.upTo_rstnLow (s : State) (e : Time) : (s.upTo e).rstnLow = s.rstnLow := rfl
@[simp] theorem State.upTo_linkBAddress (s : State) (e : Time) : (s.upTo e).linkBAddress = s.linkBAddress := rfl
@[simp] theorem State.upTo_tSess (s : State) (e : Time) : (s.upTo e).tSess = s.tSess := rfl
@[simp] theorem State.upTo_tCmt (s : State) (e : Time) : (s.upTo e).tCmt = s.tCmt := rfl
@[simp] theorem State.upTo_records (s : State) (e : Time) : (s.upTo e).records = s.records := rfl
@[simp] theorem State.upTo_generations (s : State) (e : Time) : (s.upTo e).generations = s.generations := rfl
@[simp] theorem State.upTo_segments (s : State) (e : Time) : (s.upTo e).segments = s.segments := rfl
@[simp] theorem State.upTo_groups (s : State) (e : Time) : (s.upTo e).groups = s.groups := rfl
@[simp] theorem State.upTo_epoch (s : State) (e : Time) : (s.upTo e).epoch = s.epoch := rfl
@[simp] theorem State.upTo_session (s : State) (e : Time) : (s.upTo e).session = s.session := rfl
@[simp] theorem State.upTo_pool (s : State) (e : Time) : (s.upTo e).pool = s.pool := rfl
@[simp] theorem State.upTo_waiting (s : State) (e : Time) : (s.upTo e).waiting = s.waiting := rfl
@[simp] theorem State.upTo_engines (s : State) (e : Time) : (s.upTo e).engines = s.engines := rfl
@[simp] theorem State.upTo_lines (s : State) (e : Time) : (s.upTo e).lines = s.lines := rfl
@[simp] theorem State.upTo_units (s : State) (e : Time) : (s.upTo e).units = s.units := rfl
@[simp] theorem State.upTo_reservations (s : State) (e : Time) : (s.upTo e).reservations = s.reservations := rfl
@[simp] theorem State.upTo_contexts (s : State) (e : Time) : (s.upTo e).contexts = s.contexts := rfl
@[simp] theorem State.upTo_links (s : State) (e : Time) : (s.upTo e).links = s.links := rfl
@[simp] theorem State.upTo_pending (s : State) (e : Time) : (s.upTo e).pending = s.pending := rfl

@[simp] theorem State.setContext_now (s : State) (c : Nat) (x : Context) : (s.setContext c x).now = s.now := rfl
@[simp] theorem State.setContext_rstnLow (s : State) (c : Nat) (x : Context) : (s.setContext c x).rstnLow = s.rstnLow := rfl
@[simp] theorem State.setContext_linkBAddress (s : State) (c : Nat) (x : Context) : (s.setContext c x).linkBAddress = s.linkBAddress := rfl
@[simp] theorem State.setContext_tSess (s : State) (c : Nat) (x : Context) : (s.setContext c x).tSess = s.tSess := rfl
@[simp] theorem State.setContext_tCmt (s : State) (c : Nat) (x : Context) : (s.setContext c x).tCmt = s.tCmt := rfl
@[simp] theorem State.setContext_records (s : State) (c : Nat) (x : Context) : (s.setContext c x).records = s.records := rfl
@[simp] theorem State.setContext_generations (s : State) (c : Nat) (x : Context) : (s.setContext c x).generations = s.generations := rfl
@[simp] theorem State.setContext_segments (s : State) (c : Nat) (x : Context) : (s.setContext c x).segments = s.segments := rfl
@[simp] theorem State.setContext_groups (s : State) (c : Nat) (x : Context) : (s.setContext c x).groups = s.groups := rfl
@[simp] theorem State.setContext_epoch (s : State) (c : Nat) (x : Context) : (s.setContext c x).epoch = s.epoch := rfl
@[simp] theorem State.setContext_session (s : State) (c : Nat) (x : Context) : (s.setContext c x).session = s.session := rfl
@[simp] theorem State.setContext_pool (s : State) (c : Nat) (x : Context) : (s.setContext c x).pool = s.pool := rfl
@[simp] theorem State.setContext_waiting (s : State) (c : Nat) (x : Context) : (s.setContext c x).waiting = s.waiting := rfl
@[simp] theorem State.setContext_engines (s : State) (c : Nat) (x : Context) : (s.setContext c x).engines = s.engines := rfl
@[simp] theorem State.setContext_lines (s : State) (c : Nat) (x : Context) : (s.setContext c x).lines = s.lines := rfl
@[simp] theorem State.setContext_units (s : State) (c : Nat) (x : Context) : (s.setContext c x).units = s.units := rfl
@[simp] theorem State.setContext_reservations (s : State) (c : Nat) (x : Context) : (s.setContext c x).reservations = s.reservations := rfl
@[simp] theorem State.setContext_links (s : State) (c : Nat) (x : Context) : (s.setContext c x).links = s.links := rfl
@[simp] theorem State.setContext_pending (s : State) (c : Nat) (x : Context) : (s.setContext c x).pending = s.pending := rfl
@[simp] theorem State.setTxn_now (s : State) (t : Txn) : (s.setTxn t).now = s.now := rfl
@[simp] theorem State.setTxn_rstnLow (s : State) (t : Txn) : (s.setTxn t).rstnLow = s.rstnLow := rfl
@[simp] theorem State.setTxn_linkBAddress (s : State) (t : Txn) : (s.setTxn t).linkBAddress = s.linkBAddress := rfl
@[simp] theorem State.setTxn_tSess (s : State) (t : Txn) : (s.setTxn t).tSess = s.tSess := rfl
@[simp] theorem State.setTxn_tCmt (s : State) (t : Txn) : (s.setTxn t).tCmt = s.tCmt := rfl
@[simp] theorem State.setTxn_records (s : State) (t : Txn) : (s.setTxn t).records = s.records := rfl
@[simp] theorem State.setTxn_generations (s : State) (t : Txn) : (s.setTxn t).generations = s.generations := rfl
@[simp] theorem State.setTxn_segments (s : State) (t : Txn) : (s.setTxn t).segments = s.segments := rfl
@[simp] theorem State.setTxn_groups (s : State) (t : Txn) : (s.setTxn t).groups = s.groups := rfl
@[simp] theorem State.setTxn_epoch (s : State) (t : Txn) : (s.setTxn t).epoch = s.epoch := rfl
@[simp] theorem State.setTxn_session (s : State) (t : Txn) : (s.setTxn t).session = s.session := rfl
@[simp] theorem State.setTxn_waiting (s : State) (t : Txn) : (s.setTxn t).waiting = s.waiting := rfl
@[simp] theorem State.setTxn_engines (s : State) (t : Txn) : (s.setTxn t).engines = s.engines := rfl
@[simp] theorem State.setTxn_lines (s : State) (t : Txn) : (s.setTxn t).lines = s.lines := rfl
@[simp] theorem State.setTxn_units (s : State) (t : Txn) : (s.setTxn t).units = s.units := rfl
@[simp] theorem State.setTxn_reservations (s : State) (t : Txn) : (s.setTxn t).reservations = s.reservations := rfl
@[simp] theorem State.setTxn_contexts (s : State) (t : Txn) : (s.setTxn t).contexts = s.contexts := rfl
@[simp] theorem State.setTxn_links (s : State) (t : Txn) : (s.setTxn t).links = s.links := rfl
@[simp] theorem State.setTxn_pending (s : State) (t : Txn) : (s.setTxn t).pending = s.pending := rfl

@[simp] theorem State.link_setLink_self (s : State) (l : Link) (i : LinkState) : (s.setLink l i).link l = i := by
  simp [State.link, State.setLink]

theorem State.link_setLink (s : State) (l m : Link) (i : LinkState) :
    (s.setLink l i).link m = if m = l then i else s.link m := by
  simp [State.link, State.setLink, PerLink.get_set]

@[simp] theorem State.setLink_setLink (s : State) (l : Link) (i j : LinkState) :
    (s.setLink l i).setLink l j = s.setLink l j := by
  simp [State.setLink]

@[simp] theorem State.engine_setEngine_self (s : State) (p : Port) (e : Engine) : (s.setEngine p e).engine p = e := by
  simp [State.engine, State.setEngine]

theorem State.engine_setEngine (s : State) (p q : Port) (e : Engine) :
    (s.setEngine p e).engine q = if q = p then e else s.engine q := by
  simp [State.engine, State.setEngine, PerPort.get_set]

@[simp] theorem State.setEngine_setEngine (s : State) (p : Port) (e f : Engine) :
    (s.setEngine p e).setEngine p f = s.setEngine p f := by
  simp [State.setEngine]

@[simp] theorem State.unit_setUnit_self (s : State) (p : Port) (u : Containment) : (s.setUnit p u).unit p = u := by
  simp [State.unit, State.setUnit]

theorem State.unit_setUnit (s : State) (p q : Port) (u : Containment) :
    (s.setUnit p u).unit q = if q = p then u else s.unit q := by
  simp [State.unit, State.setUnit, PerPort.get_set]

@[simp] theorem State.setUnit_setUnit (s : State) (p : Port) (u v : Containment) :
    (s.setUnit p u).setUnit p v = s.setUnit p v := by
  simp [State.setUnit]

@[simp] theorem State.line_setLine_self (s : State) (p : Port) (x : Lines) : (s.setLine p x).line p = x := by
  simp [State.line, State.setLine]

theorem State.line_setLine (s : State) (p q : Port) (x : Lines) :
    (s.setLine p x).line q = if q = p then x else s.line q := by
  simp [State.line, State.setLine, PerPort.get_set]

@[simp] theorem State.engine_setLink (s : State) (l : Link) (i : LinkState) (p : Port) :
    (s.setLink l i).engine p = s.engine p := rfl

@[simp] theorem State.unit_setLink (s : State) (l : Link) (i : LinkState) (p : Port) :
    (s.setLink l i).unit p = s.unit p := rfl

@[simp] theorem State.line_setLink (s : State) (l : Link) (i : LinkState) (p : Port) :
    (s.setLink l i).line p = s.line p := rfl

@[simp] theorem State.unit_setEngine (s : State) (p : Port) (e : Engine) (q : Port) :
    (s.setEngine p e).unit q = s.unit q := rfl

@[simp] theorem State.line_setEngine (s : State) (p : Port) (e : Engine) (q : Port) :
    (s.setEngine p e).line q = s.line q := rfl

@[simp] theorem State.link_setEngine (s : State) (p : Port) (e : Engine) (l : Link) :
    (s.setEngine p e).link l = s.link l := rfl

@[simp] theorem State.engine_setUnit (s : State) (p : Port) (u : Containment) (q : Port) :
    (s.setUnit p u).engine q = s.engine q := rfl

@[simp] theorem State.line_setUnit (s : State) (p : Port) (u : Containment) (q : Port) :
    (s.setUnit p u).line q = s.line q := rfl

@[simp] theorem State.link_setUnit (s : State) (p : Port) (u : Containment) (l : Link) :
    (s.setUnit p u).link l = s.link l := rfl

@[simp] theorem State.engine_setLine (s : State) (p : Port) (x : Lines) (q : Port) :
    (s.setLine p x).engine q = s.engine q := rfl

@[simp] theorem State.unit_setLine (s : State) (p : Port) (x : Lines) (q : Port) :
    (s.setLine p x).unit q = s.unit q := rfl

@[simp] theorem State.link_setLine (s : State) (p : Port) (x : Lines) (l : Link) :
    (s.setLine p x).link l = s.link l := rfl

end Sys2Proof.Machine
end

