-- ==== Sys2Proof/Laws/Bus.lean ====
section
/-! SUPPORT. One lemma for each field and each operation on the lines of a port and on the phase of its engine. -/
namespace Sys2Proof.Machine

@[simp] theorem putLines_now (p : Port) (a b c : Bool) (s : State) : (putLines p a b c s).now = s.now := by
  simp only [putLines, State.setUnit_now, State.setLine_now]
@[simp] theorem putLines_rstnLow (p : Port) (a b c : Bool) (s : State) : (putLines p a b c s).rstnLow = s.rstnLow := by
  simp only [putLines, State.setUnit_rstnLow, State.setLine_rstnLow]
@[simp] theorem putLines_linkBAddress (p : Port) (a b c : Bool) (s : State) : (putLines p a b c s).linkBAddress = s.linkBAddress := by
  simp only [putLines, State.setUnit_linkBAddress, State.setLine_linkBAddress]
@[simp] theorem putLines_tSess (p : Port) (a b c : Bool) (s : State) : (putLines p a b c s).tSess = s.tSess := by
  simp only [putLines, State.setUnit_tSess, State.setLine_tSess]
@[simp] theorem putLines_tCmt (p : Port) (a b c : Bool) (s : State) : (putLines p a b c s).tCmt = s.tCmt := by
  simp only [putLines, State.setUnit_tCmt, State.setLine_tCmt]
@[simp] theorem putLines_records (p : Port) (a b c : Bool) (s : State) : (putLines p a b c s).records = s.records := by
  simp only [putLines, State.setUnit_records, State.setLine_records]
@[simp] theorem putLines_generations (p : Port) (a b c : Bool) (s : State) : (putLines p a b c s).generations = s.generations := by
  simp only [putLines, State.setUnit_generations, State.setLine_generations]
@[simp] theorem putLines_segments (p : Port) (a b c : Bool) (s : State) : (putLines p a b c s).segments = s.segments := by
  simp only [putLines, State.setUnit_segments, State.setLine_segments]
@[simp] theorem putLines_groups (p : Port) (a b c : Bool) (s : State) : (putLines p a b c s).groups = s.groups := by
  simp only [putLines, State.setUnit_groups, State.setLine_groups]
@[simp] theorem putLines_epoch (p : Port) (a b c : Bool) (s : State) : (putLines p a b c s).epoch = s.epoch := by
  simp only [putLines, State.setUnit_epoch, State.setLine_epoch]
@[simp] theorem putLines_session (p : Port) (a b c : Bool) (s : State) : (putLines p a b c s).session = s.session := by
  simp only [putLines, State.setUnit_session, State.setLine_session]
@[simp] theorem putLines_pool (p : Port) (a b c : Bool) (s : State) : (putLines p a b c s).pool = s.pool := by
  simp only [putLines, State.setUnit_pool, State.setLine_pool]
@[simp] theorem putLines_waiting (p : Port) (a b c : Bool) (s : State) : (putLines p a b c s).waiting = s.waiting := by
  simp only [putLines, State.setUnit_waiting, State.setLine_waiting]
@[simp] theorem putLines_reservations (p : Port) (a b c : Bool) (s : State) : (putLines p a b c s).reservations = s.reservations := by
  simp only [putLines, State.setUnit_reservations, State.setLine_reservations]
@[simp] theorem putLines_contexts (p : Port) (a b c : Bool) (s : State) : (putLines p a b c s).contexts = s.contexts := by
  simp only [putLines, State.setUnit_contexts, State.setLine_contexts]
@[simp] theorem putLines_links (p : Port) (a b c : Bool) (s : State) : (putLines p a b c s).links = s.links := by
  simp only [putLines, State.setUnit_links, State.setLine_links]
@[simp] theorem putLines_pending (p : Port) (a b c : Bool) (s : State) : (putLines p a b c s).pending = s.pending := by
  simp only [putLines, State.setUnit_pending, State.setLine_pending]
@[simp] theorem putLines_engines (p : Port) (a b c : Bool) (s : State) : (putLines p a b c s).engines = s.engines := by
  simp only [putLines, State.setUnit_engines, State.setLine_engines]

@[simp] theorem releaseLines_now (p : Port) (s : State) : (releaseLines p s).now = s.now := by
  simp only [releaseLines, putLines_now]
@[simp] theorem releaseLines_rstnLow (p : Port) (s : State) : (releaseLines p s).rstnLow = s.rstnLow := by
  simp only [releaseLines, putLines_rstnLow]
@[simp] theorem releaseLines_linkBAddress (p : Port) (s : State) : (releaseLines p s).linkBAddress = s.linkBAddress := by
  simp only [releaseLines, putLines_linkBAddress]
@[simp] theorem releaseLines_tSess (p : Port) (s : State) : (releaseLines p s).tSess = s.tSess := by
  simp only [releaseLines, putLines_tSess]
@[simp] theorem releaseLines_tCmt (p : Port) (s : State) : (releaseLines p s).tCmt = s.tCmt := by
  simp only [releaseLines, putLines_tCmt]
@[simp] theorem releaseLines_records (p : Port) (s : State) : (releaseLines p s).records = s.records := by
  simp only [releaseLines, putLines_records]
@[simp] theorem releaseLines_generations (p : Port) (s : State) : (releaseLines p s).generations = s.generations := by
  simp only [releaseLines, putLines_generations]
@[simp] theorem releaseLines_segments (p : Port) (s : State) : (releaseLines p s).segments = s.segments := by
  simp only [releaseLines, putLines_segments]
@[simp] theorem releaseLines_groups (p : Port) (s : State) : (releaseLines p s).groups = s.groups := by
  simp only [releaseLines, putLines_groups]
@[simp] theorem releaseLines_epoch (p : Port) (s : State) : (releaseLines p s).epoch = s.epoch := by
  simp only [releaseLines, putLines_epoch]
@[simp] theorem releaseLines_session (p : Port) (s : State) : (releaseLines p s).session = s.session := by
  simp only [releaseLines, putLines_session]
@[simp] theorem releaseLines_pool (p : Port) (s : State) : (releaseLines p s).pool = s.pool := by
  simp only [releaseLines, putLines_pool]
@[simp] theorem releaseLines_waiting (p : Port) (s : State) : (releaseLines p s).waiting = s.waiting := by
  simp only [releaseLines, putLines_waiting]
@[simp] theorem releaseLines_reservations (p : Port) (s : State) : (releaseLines p s).reservations = s.reservations := by
  simp only [releaseLines, putLines_reservations]
@[simp] theorem releaseLines_contexts (p : Port) (s : State) : (releaseLines p s).contexts = s.contexts := by
  simp only [releaseLines, putLines_contexts]
@[simp] theorem releaseLines_links (p : Port) (s : State) : (releaseLines p s).links = s.links := by
  simp only [releaseLines, putLines_links]
@[simp] theorem releaseLines_pending (p : Port) (s : State) : (releaseLines p s).pending = s.pending := by
  simp only [releaseLines, putLines_pending]
@[simp] theorem releaseLines_engines (p : Port) (s : State) : (releaseLines p s).engines = s.engines := by
  simp only [releaseLines, putLines_engines]

@[simp] theorem endPhase_now (p : Port) (s : State) : (endPhase p s).now = s.now := by
  simp only [endPhase, releaseLines_now, State.setEngine_now]
@[simp] theorem endPhase_rstnLow (p : Port) (s : State) : (endPhase p s).rstnLow = s.rstnLow := by
  simp only [endPhase, releaseLines_rstnLow, State.setEngine_rstnLow]
@[simp] theorem endPhase_linkBAddress (p : Port) (s : State) : (endPhase p s).linkBAddress = s.linkBAddress := by
  simp only [endPhase, releaseLines_linkBAddress, State.setEngine_linkBAddress]
@[simp] theorem endPhase_tSess (p : Port) (s : State) : (endPhase p s).tSess = s.tSess := by
  simp only [endPhase, releaseLines_tSess, State.setEngine_tSess]
@[simp] theorem endPhase_tCmt (p : Port) (s : State) : (endPhase p s).tCmt = s.tCmt := by
  simp only [endPhase, releaseLines_tCmt, State.setEngine_tCmt]
@[simp] theorem endPhase_records (p : Port) (s : State) : (endPhase p s).records = s.records := by
  simp only [endPhase, releaseLines_records, State.setEngine_records]
@[simp] theorem endPhase_generations (p : Port) (s : State) : (endPhase p s).generations = s.generations := by
  simp only [endPhase, releaseLines_generations, State.setEngine_generations]
@[simp] theorem endPhase_segments (p : Port) (s : State) : (endPhase p s).segments = s.segments := by
  simp only [endPhase, releaseLines_segments, State.setEngine_segments]
@[simp] theorem endPhase_groups (p : Port) (s : State) : (endPhase p s).groups = s.groups := by
  simp only [endPhase, releaseLines_groups, State.setEngine_groups]
@[simp] theorem endPhase_epoch (p : Port) (s : State) : (endPhase p s).epoch = s.epoch := by
  simp only [endPhase, releaseLines_epoch, State.setEngine_epoch]
@[simp] theorem endPhase_session (p : Port) (s : State) : (endPhase p s).session = s.session := by
  simp only [endPhase, releaseLines_session, State.setEngine_session]
@[simp] theorem endPhase_pool (p : Port) (s : State) : (endPhase p s).pool = s.pool := by
  simp only [endPhase, releaseLines_pool, State.setEngine_pool]
@[simp] theorem endPhase_waiting (p : Port) (s : State) : (endPhase p s).waiting = s.waiting := by
  simp only [endPhase, releaseLines_waiting, State.setEngine_waiting]
@[simp] theorem endPhase_reservations (p : Port) (s : State) : (endPhase p s).reservations = s.reservations := by
  simp only [endPhase, releaseLines_reservations, State.setEngine_reservations]
@[simp] theorem endPhase_contexts (p : Port) (s : State) : (endPhase p s).contexts = s.contexts := by
  simp only [endPhase, releaseLines_contexts, State.setEngine_contexts]
@[simp] theorem endPhase_links (p : Port) (s : State) : (endPhase p s).links = s.links := by
  simp only [endPhase, releaseLines_links, State.setEngine_links]
@[simp] theorem endPhase_pending (p : Port) (s : State) : (endPhase p s).pending = s.pending := by
  simp only [endPhase, releaseLines_pending, State.setEngine_pending]

@[simp] theorem engine_putLines (p q : Port) (a b c : Bool) (s : State) : (putLines p a b c s).engine q = s.engine q := by
  simp only [putLines, State.engine_setUnit, State.engine_setLine]

@[simp] theorem link_putLines (p : Port) (l : Link) (a b c : Bool) (s : State) : (putLines p a b c s).link l = s.link l := by
  simp only [putLines, State.link_setUnit, State.link_setLine]

@[simp] theorem engine_releaseLines (p q : Port) (s : State) : (releaseLines p s).engine q = s.engine q := by
  simp only [releaseLines, engine_putLines]

@[simp] theorem link_releaseLines (p : Port) (l : Link) (s : State) : (releaseLines p s).link l = s.link l := by
  simp only [releaseLines, link_putLines]

@[simp] theorem link_endPhase (p : Port) (l : Link) (s : State) : (endPhase p s).link l = s.link l := by
  simp only [endPhase, link_releaseLines, State.link_setEngine]

/-- The lines of a port after they have taken levels: a line that changes does so now (R86, R92, R93). -/
theorem line_putLines (p q : Port) (a b c : Bool) (s : State) :
    (putLines p a b c s).line q = if q = p then (s.line p).put a b c s.now else s.line q := by
  simp only [putLines, State.line_setUnit]
  split
  · next h => rw [h, State.line_setLine_self]
  · next h => rw [State.line_setLine, if_neg h]

theorem engine_endPhase (p : Port) (s : State) : (endPhase p s).engine p = { s.engine p with phase := none } := by
  simp only [endPhase, engine_releaseLines, State.engine_setEngine_self]

theorem engine_endPhase_ne (p q : Port) (s : State) (h : q ≠ p) : (endPhase p s).engine q = s.engine q := by
  simp only [endPhase, engine_releaseLines, State.engine_setEngine, if_neg h]

/-- The lines and the units do not depend on the engines. -/
theorem putLines_setEngine (p q : Port) (e : Engine) (a b c : Bool) (s : State) :
    putLines p a b c (s.setEngine q e) = (putLines p a b c s).setEngine q e := by
  simp only [putLines, State.line_setEngine, State.unit_setEngine, State.setEngine_now]
  rfl

theorem releaseLines_setEngine (p q : Port) (e : Engine) (s : State) :
    releaseLines p (s.setEngine q e) = (releaseLines p s).setEngine q e := by
  simp only [releaseLines, putLines_setEngine]

/-- A change of the lines leaves the containment state of every port as it was. -/
theorem unit_putLines_state (p q : Port) (a b c : Bool) (s : State) :
    ((putLines p a b c s).unit q).state = (s.unit q).state := by
  simp only [putLines, State.unit_setUnit, State.unit_setLine]
  split
  · next h => rw [h]
  · rfl

theorem unit_releaseLines_state (p q : Port) (s : State) : ((releaseLines p s).unit q).state = (s.unit q).state := by
  simp only [releaseLines, unit_putLines_state]

@[simp] theorem engine_clearedLines (p q : Port) (r : ClearReading) (s : State) :
    (clearedLines p r s).engine q = s.engine q := by
  simp only [clearedLines]
  split
  · exact engine_releaseLines _ _ _
  · exact engine_putLines _ _ _ _ _ _

/-- The clock line is held in the first pulse whose data line does not read low (R95). -/
theorem pulsesHeld_iff (n : Nat) (xs : List PulseReading) :
    pulsesHeld n xs = true ↔ ∃ k < n, xs[k]? = some .clockHeld ∧ ∀ j < k, xs[j]? = some .dataLow := by
  induction n generalizing xs with
  | zero => simp [pulsesHeld]
  | succ n ih =>
    cases xs with
    | nil => simp [pulsesHeld]
    | cons x rest =>
      cases x with
      | clockHeld =>
        simp only [pulsesHeld, true_iff]
        exact ⟨0, Nat.succ_pos n, rfl, fun j h => absurd h (Nat.not_lt_zero j)⟩
      | dataHigh =>
        simp only [pulsesHeld, Bool.false_eq_true, false_iff]
        rintro ⟨k, _, held, low⟩
        cases k with
        | zero => simp at held
        | succ k => simpa using low 0 (Nat.succ_pos k)
      | dataLow =>
        simp only [pulsesHeld, ih]
        constructor
        · rintro ⟨k, h, held, low⟩
          refine ⟨k + 1, Nat.succ_lt_succ h, by simpa using held, fun j hj => ?_⟩
          cases j with
          | zero => rfl
          | succ j => simpa using low j (Nat.lt_of_succ_lt_succ hj)
        · rintro ⟨k, h, held, low⟩
          cases k with
          | zero => simp at held
          | succ k =>
            exact ⟨k, Nat.lt_of_succ_lt_succ h, by simpa using held,
              fun j hj => by simpa using low (j + 1) (Nat.succ_lt_succ hj)⟩

/-- A clear that is HELD leaves a line low. -/
theorem heldLevels_low (r : ClearReading) (sda : Bool) : ((heldLevels r sda).1 && (heldLevels r sda).2) = false := by
  simp only [heldLevels]
  split
  · rfl
  · exact Bool.and_false _

/-- A clear that is FREE releases the lines; one that is HELD leaves them at the levels it has read (R95). -/
theorem clearedLines_free {p : Port} {r : ClearReading} {s : State} (h : clearFree r = true) :
    clearedLines p r s = releaseLines p s := by
  simp only [clearedLines, h, if_true]

theorem clearedLines_held {p : Port} {r : ClearReading} {s : State} (h : clearFree r = false) :
    clearedLines p r s = putLines p (heldLevels r (s.line p).sda).1 (heldLevels r (s.line p).sda).2
      (s.line p).otherMaster s := by
  simp only [clearedLines, h, Bool.false_eq_true, if_false]

/-- When a hold of the clock line reaches the stretch limit (R92). -/
theorem stretchExpiry_eq (s : State) (p : Port) :
    s.stretchExpiry p = (if (s.line p).scl = true then s.now else max (s.engine p).since (s.line p).sclSince) +
      (match (s.engine p).phase with | some x => x.stretch | none => (s.engine p).config.tStretch) * 10000 := by
  simp only [State.stretchExpiry, Engine.heldSince, Engine.stretchLimit, Config.ms, Config.ticksPerMs]
  cases (s.engine p).phase <;> cases (s.line p).scl <;> rfl

/-- When a hold of the data line with the clock line high reaches tSDA (R93). -/
theorem sdaExpiry_eq (s : State) (p : Port) :
    s.sdaExpiry p = (if (s.line p).scl = true ∧ (s.line p).sda = false then
      max (s.engine p).since (max (s.line p).sclSince (s.line p).sdaSince) else s.now) + 50000 := by
  simp only [State.sdaExpiry, Engine.heldSince, Lines.since, Config.ms, Config.ticksPerMs, Config.tSda]
  cases (s.line p).scl <;> cases (s.line p).sda <;> rfl

/-- A held clock line changes the lines and the clock alone (R92). -/
theorem holdClock_eq (p : Port) (s : State) :
    holdClock p s =
      { putLines p false (s.line p).sda (s.line p).otherMaster s with now := max s.now (s.stretchExpiry p) } := rfl

/-- A held data line changes the lines and the clock alone (R93). -/
theorem holdData_eq (p : Port) (s : State) :
    holdData p s = { putLines p true false (s.line p).otherMaster s with now := max s.now (s.sdaExpiry p) } := rfl

end Sys2Proof.Machine
end

