-- ==== Sys2Proof/Laws/Links.lean ====
section
/-! SUPPORT. Laws of the link operations: what a raise, a response and a dropped frame can change, and the acceptance
and the answer of a request as closed forms. -/
namespace Sys2Proof.Machine

/-! ### A raise, a response and a dropped frame replace a link interface and nothing else -/

@[simp] theorem raise_now (l : Link) (k : AttentionKind) (x : Subject) (s : State) :
    (raise l k x s).now = s.now := rfl
@[simp] theorem raise_rstnLow (l : Link) (k : AttentionKind) (x : Subject) (s : State) :
    (raise l k x s).rstnLow = s.rstnLow := rfl
@[simp] theorem raise_linkBAddress (l : Link) (k : AttentionKind) (x : Subject) (s : State) :
    (raise l k x s).linkBAddress = s.linkBAddress := rfl
@[simp] theorem raise_tSess (l : Link) (k : AttentionKind) (x : Subject) (s : State) :
    (raise l k x s).tSess = s.tSess := rfl
@[simp] theorem raise_tCmt (l : Link) (k : AttentionKind) (x : Subject) (s : State) :
    (raise l k x s).tCmt = s.tCmt := rfl
@[simp] theorem raise_records (l : Link) (k : AttentionKind) (x : Subject) (s : State) :
    (raise l k x s).records = s.records := rfl
@[simp] theorem raise_generations (l : Link) (k : AttentionKind) (x : Subject) (s : State) :
    (raise l k x s).generations = s.generations := rfl
@[simp] theorem raise_segments (l : Link) (k : AttentionKind) (x : Subject) (s : State) :
    (raise l k x s).segments = s.segments := rfl
@[simp] theorem raise_groups (l : Link) (k : AttentionKind) (x : Subject) (s : State) :
    (raise l k x s).groups = s.groups := rfl
@[simp] theorem raise_epoch (l : Link) (k : AttentionKind) (x : Subject) (s : State) :
    (raise l k x s).epoch = s.epoch := rfl
@[simp] theorem raise_session (l : Link) (k : AttentionKind) (x : Subject) (s : State) :
    (raise l k x s).session = s.session := rfl
@[simp] theorem raise_pool (l : Link) (k : AttentionKind) (x : Subject) (s : State) :
    (raise l k x s).pool = s.pool := rfl
@[simp] theorem raise_waiting (l : Link) (k : AttentionKind) (x : Subject) (s : State) :
    (raise l k x s).waiting = s.waiting := rfl
@[simp] theorem raise_engines (l : Link) (k : AttentionKind) (x : Subject) (s : State) :
    (raise l k x s).engines = s.engines := rfl
@[simp] theorem raise_lines (l : Link) (k : AttentionKind) (x : Subject) (s : State) :
    (raise l k x s).lines = s.lines := rfl
@[simp] theorem raise_units (l : Link) (k : AttentionKind) (x : Subject) (s : State) :
    (raise l k x s).units = s.units := rfl
@[simp] theorem raise_reservations (l : Link) (k : AttentionKind) (x : Subject) (s : State) :
    (raise l k x s).reservations = s.reservations := rfl
@[simp] theorem raise_contexts (l : Link) (k : AttentionKind) (x : Subject) (s : State) :
    (raise l k x s).contexts = s.contexts := rfl
@[simp] theorem raise_pending (l : Link) (k : AttentionKind) (x : Subject) (s : State) :
    (raise l k x s).pending = s.pending := rfl

@[simp] theorem raiseBoth_now (k : AttentionKind) (x : Subject) (s : State) :
    (raiseBoth k x s).now = s.now := rfl
@[simp] theorem raiseBoth_rstnLow (k : AttentionKind) (x : Subject) (s : State) :
    (raiseBoth k x s).rstnLow = s.rstnLow := rfl
@[simp] theorem raiseBoth_linkBAddress (k : AttentionKind) (x : Subject) (s : State) :
    (raiseBoth k x s).linkBAddress = s.linkBAddress := rfl
@[simp] theorem raiseBoth_tSess (k : AttentionKind) (x : Subject) (s : State) :
    (raiseBoth k x s).tSess = s.tSess := rfl
@[simp] theorem raiseBoth_tCmt (k : AttentionKind) (x : Subject) (s : State) :
    (raiseBoth k x s).tCmt = s.tCmt := rfl
@[simp] theorem raiseBoth_records (k : AttentionKind) (x : Subject) (s : State) :
    (raiseBoth k x s).records = s.records := rfl
@[simp] theorem raiseBoth_generations (k : AttentionKind) (x : Subject) (s : State) :
    (raiseBoth k x s).generations = s.generations := rfl
@[simp] theorem raiseBoth_segments (k : AttentionKind) (x : Subject) (s : State) :
    (raiseBoth k x s).segments = s.segments := rfl
@[simp] theorem raiseBoth_groups (k : AttentionKind) (x : Subject) (s : State) :
    (raiseBoth k x s).groups = s.groups := rfl
@[simp] theorem raiseBoth_epoch (k : AttentionKind) (x : Subject) (s : State) :
    (raiseBoth k x s).epoch = s.epoch := rfl
@[simp] theorem raiseBoth_session (k : AttentionKind) (x : Subject) (s : State) :
    (raiseBoth k x s).session = s.session := rfl
@[simp] theorem raiseBoth_pool (k : AttentionKind) (x : Subject) (s : State) :
    (raiseBoth k x s).pool = s.pool := rfl
@[simp] theorem raiseBoth_waiting (k : AttentionKind) (x : Subject) (s : State) :
    (raiseBoth k x s).waiting = s.waiting := rfl
@[simp] theorem raiseBoth_engines (k : AttentionKind) (x : Subject) (s : State) :
    (raiseBoth k x s).engines = s.engines := rfl
@[simp] theorem raiseBoth_lines (k : AttentionKind) (x : Subject) (s : State) :
    (raiseBoth k x s).lines = s.lines := rfl
@[simp] theorem raiseBoth_units (k : AttentionKind) (x : Subject) (s : State) :
    (raiseBoth k x s).units = s.units := rfl
@[simp] theorem raiseBoth_reservations (k : AttentionKind) (x : Subject) (s : State) :
    (raiseBoth k x s).reservations = s.reservations := rfl
@[simp] theorem raiseBoth_contexts (k : AttentionKind) (x : Subject) (s : State) :
    (raiseBoth k x s).contexts = s.contexts := rfl
@[simp] theorem raiseBoth_pending (k : AttentionKind) (x : Subject) (s : State) :
    (raiseBoth k x s).pending = s.pending := rfl

@[simp] theorem respond_now (l : Link) (tag : Tag) (o : Status) (d : List Byte) (s : State) :
    (respond l tag o d s).now = s.now := by
  simp only [respond]
  split <;> rfl
@[simp] theorem respond_rstnLow (l : Link) (tag : Tag) (o : Status) (d : List Byte) (s : State) :
    (respond l tag o d s).rstnLow = s.rstnLow := by
  simp only [respond]
  split <;> rfl
@[simp] theorem respond_linkBAddress (l : Link) (tag : Tag) (o : Status) (d : List Byte) (s : State) :
    (respond l tag o d s).linkBAddress = s.linkBAddress := by
  simp only [respond]
  split <;> rfl
@[simp] theorem respond_tSess (l : Link) (tag : Tag) (o : Status) (d : List Byte) (s : State) :
    (respond l tag o d s).tSess = s.tSess := by
  simp only [respond]
  split <;> rfl
@[simp] theorem respond_tCmt (l : Link) (tag : Tag) (o : Status) (d : List Byte) (s : State) :
    (respond l tag o d s).tCmt = s.tCmt := by
  simp only [respond]
  split <;> rfl
@[simp] theorem respond_records (l : Link) (tag : Tag) (o : Status) (d : List Byte) (s : State) :
    (respond l tag o d s).records = s.records := by
  simp only [respond]
  split <;> rfl
@[simp] theorem respond_generations (l : Link) (tag : Tag) (o : Status) (d : List Byte) (s : State) :
    (respond l tag o d s).generations = s.generations := by
  simp only [respond]
  split <;> rfl
@[simp] theorem respond_segments (l : Link) (tag : Tag) (o : Status) (d : List Byte) (s : State) :
    (respond l tag o d s).segments = s.segments := by
  simp only [respond]
  split <;> rfl
@[simp] theorem respond_groups (l : Link) (tag : Tag) (o : Status) (d : List Byte) (s : State) :
    (respond l tag o d s).groups = s.groups := by
  simp only [respond]
  split <;> rfl
@[simp] theorem respond_epoch (l : Link) (tag : Tag) (o : Status) (d : List Byte) (s : State) :
    (respond l tag o d s).epoch = s.epoch := by
  simp only [respond]
  split <;> rfl
@[simp] theorem respond_session (l : Link) (tag : Tag) (o : Status) (d : List Byte) (s : State) :
    (respond l tag o d s).session = s.session := by
  simp only [respond]
  split <;> rfl
@[simp] theorem respond_pool (l : Link) (tag : Tag) (o : Status) (d : List Byte) (s : State) :
    (respond l tag o d s).pool = s.pool := by
  simp only [respond]
  split <;> rfl
@[simp] theorem respond_waiting (l : Link) (tag : Tag) (o : Status) (d : List Byte) (s : State) :
    (respond l tag o d s).waiting = s.waiting := by
  simp only [respond]
  split <;> rfl
@[simp] theorem respond_engines (l : Link) (tag : Tag) (o : Status) (d : List Byte) (s : State) :
    (respond l tag o d s).engines = s.engines := by
  simp only [respond]
  split <;> rfl
@[simp] theorem respond_lines (l : Link) (tag : Tag) (o : Status) (d : List Byte) (s : State) :
    (respond l tag o d s).lines = s.lines := by
  simp only [respond]
  split <;> rfl
@[simp] theorem respond_units (l : Link) (tag : Tag) (o : Status) (d : List Byte) (s : State) :
    (respond l tag o d s).units = s.units := by
  simp only [respond]
  split <;> rfl
@[simp] theorem respond_reservations (l : Link) (tag : Tag) (o : Status) (d : List Byte) (s : State) :
    (respond l tag o d s).reservations = s.reservations := by
  simp only [respond]
  split <;> rfl
@[simp] theorem respond_contexts (l : Link) (tag : Tag) (o : Status) (d : List Byte) (s : State) :
    (respond l tag o d s).contexts = s.contexts := by
  simp only [respond]
  split <;> rfl
@[simp] theorem respond_pending (l : Link) (tag : Tag) (o : Status) (d : List Byte) (s : State) :
    (respond l tag o d s).pending = s.pending := by
  simp only [respond]
  split <;> rfl

@[simp] theorem answer_now (l : Link) (tag : Tag) (o : Status) (s : State) :
    (answer l tag o s).now = s.now := respond_now l tag o [] s
@[simp] theorem answer_rstnLow (l : Link) (tag : Tag) (o : Status) (s : State) :
    (answer l tag o s).rstnLow = s.rstnLow := respond_rstnLow l tag o [] s
@[simp] theorem answer_linkBAddress (l : Link) (tag : Tag) (o : Status) (s : State) :
    (answer l tag o s).linkBAddress = s.linkBAddress := respond_linkBAddress l tag o [] s
@[simp] theorem answer_tSess (l : Link) (tag : Tag) (o : Status) (s : State) :
    (answer l tag o s).tSess = s.tSess := respond_tSess l tag o [] s
@[simp] theorem answer_tCmt (l : Link) (tag : Tag) (o : Status) (s : State) :
    (answer l tag o s).tCmt = s.tCmt := respond_tCmt l tag o [] s
@[simp] theorem answer_records (l : Link) (tag : Tag) (o : Status) (s : State) :
    (answer l tag o s).records = s.records := respond_records l tag o [] s
@[simp] theorem answer_generations (l : Link) (tag : Tag) (o : Status) (s : State) :
    (answer l tag o s).generations = s.generations := respond_generations l tag o [] s
@[simp] theorem answer_segments (l : Link) (tag : Tag) (o : Status) (s : State) :
    (answer l tag o s).segments = s.segments := respond_segments l tag o [] s
@[simp] theorem answer_groups (l : Link) (tag : Tag) (o : Status) (s : State) :
    (answer l tag o s).groups = s.groups := respond_groups l tag o [] s
@[simp] theorem answer_epoch (l : Link) (tag : Tag) (o : Status) (s : State) :
    (answer l tag o s).epoch = s.epoch := respond_epoch l tag o [] s
@[simp] theorem answer_session (l : Link) (tag : Tag) (o : Status) (s : State) :
    (answer l tag o s).session = s.session := respond_session l tag o [] s
@[simp] theorem answer_pool (l : Link) (tag : Tag) (o : Status) (s : State) :
    (answer l tag o s).pool = s.pool := respond_pool l tag o [] s
@[simp] theorem answer_waiting (l : Link) (tag : Tag) (o : Status) (s : State) :
    (answer l tag o s).waiting = s.waiting := respond_waiting l tag o [] s
@[simp] theorem answer_engines (l : Link) (tag : Tag) (o : Status) (s : State) :
    (answer l tag o s).engines = s.engines := respond_engines l tag o [] s
@[simp] theorem answer_lines (l : Link) (tag : Tag) (o : Status) (s : State) :
    (answer l tag o s).lines = s.lines := respond_lines l tag o [] s
@[simp] theorem answer_units (l : Link) (tag : Tag) (o : Status) (s : State) :
    (answer l tag o s).units = s.units := respond_units l tag o [] s
@[simp] theorem answer_reservations (l : Link) (tag : Tag) (o : Status) (s : State) :
    (answer l tag o s).reservations = s.reservations := respond_reservations l tag o [] s
@[simp] theorem answer_contexts (l : Link) (tag : Tag) (o : Status) (s : State) :
    (answer l tag o s).contexts = s.contexts := respond_contexts l tag o [] s
@[simp] theorem answer_pending (l : Link) (tag : Tag) (o : Status) (s : State) :
    (answer l tag o s).pending = s.pending := respond_pending l tag o [] s

@[simp] theorem dropFrame_now (l : Link) (s : State) : (dropFrame l s).now = s.now := rfl
@[simp] theorem dropFrame_rstnLow (l : Link) (s : State) : (dropFrame l s).rstnLow = s.rstnLow := rfl
@[simp] theorem dropFrame_linkBAddress (l : Link) (s : State) : (dropFrame l s).linkBAddress = s.linkBAddress := rfl
@[simp] theorem dropFrame_tSess (l : Link) (s : State) : (dropFrame l s).tSess = s.tSess := rfl
@[simp] theorem dropFrame_tCmt (l : Link) (s : State) : (dropFrame l s).tCmt = s.tCmt := rfl
@[simp] theorem dropFrame_records (l : Link) (s : State) : (dropFrame l s).records = s.records := rfl
@[simp] theorem dropFrame_generations (l : Link) (s : State) : (dropFrame l s).generations = s.generations := rfl
@[simp] theorem dropFrame_segments (l : Link) (s : State) : (dropFrame l s).segments = s.segments := rfl
@[simp] theorem dropFrame_groups (l : Link) (s : State) : (dropFrame l s).groups = s.groups := rfl
@[simp] theorem dropFrame_epoch (l : Link) (s : State) : (dropFrame l s).epoch = s.epoch := rfl
@[simp] theorem dropFrame_session (l : Link) (s : State) : (dropFrame l s).session = s.session := rfl
@[simp] theorem dropFrame_pool (l : Link) (s : State) : (dropFrame l s).pool = s.pool := rfl
@[simp] theorem dropFrame_waiting (l : Link) (s : State) : (dropFrame l s).waiting = s.waiting := rfl
@[simp] theorem dropFrame_engines (l : Link) (s : State) : (dropFrame l s).engines = s.engines := rfl
@[simp] theorem dropFrame_lines (l : Link) (s : State) : (dropFrame l s).lines = s.lines := rfl
@[simp] theorem dropFrame_units (l : Link) (s : State) : (dropFrame l s).units = s.units := rfl
@[simp] theorem dropFrame_reservations (l : Link) (s : State) : (dropFrame l s).reservations = s.reservations := rfl
@[simp] theorem dropFrame_contexts (l : Link) (s : State) : (dropFrame l s).contexts = s.contexts := rfl
@[simp] theorem dropFrame_pending (l : Link) (s : State) : (dropFrame l s).pending = s.pending := rfl

/-! ### What becomes of the interfaces -/

theorem link_raise (l m : Link) (k : AttentionKind) (x : Subject) (s : State) :
    (raise l k x s).link m =
      if m = l then
        { s.link l with attention := (s.link l).attention.put k.num (.raised ((s.link l).attention.find k.num) x) }
      else s.link m := by
  simp only [raise, State.link_setLink]

theorem link_respond_ne (l m : Link) (tag : Tag) (o : Status) (d : List Byte) (s : State) (h : m ≠ l) :
    (respond l tag o d s).link m = s.link m := by
  simp only [respond]
  split
  · rw [State.link_setLink, if_neg h]
  · rfl

/-- The response to an outstanding tag (R170, R172). -/
theorem respond_outstanding (l : Link) (tag : Tag) (o : Status) (d : List Byte) (s : State)
    (h : tag ∈ (s.link l).outstanding) :
    respond l tag o d s = s.setLink l { s.link l with
      outstanding := (s.link l).outstanding.erase tag, queue := (s.link l).queue ++ [⟨tag, o, d⟩] } := by
  simp only [respond, if_pos h]

/-- A tag that is not outstanding gets no response (log 24). -/
theorem respond_not_outstanding (l : Link) (tag : Tag) (o : Status) (d : List Byte) (s : State)
    (h : tag ∉ (s.link l).outstanding) : respond l tag o d s = s := by
  simp only [respond, if_neg h]

theorem answer_eq (l : Link) (tag : Tag) (o : Status) (s : State) : answer l tag o s = respond l tag o [] s := rfl

/-! ### Accepted requests -/

theorem tagInUse_eq_false (i : LinkState) (tag : Tag) :
    i.tagInUse tag = false ↔ tag ∉ i.outstanding ∧ ∀ r ∈ i.queue, r.tag ≠ tag := by
  simp [LinkState.tagInUse]

/-- A tag is in use when it is one of the tags of its link (R170). -/
theorem tagInUse_iff (i : LinkState) (tag : Tag) : i.tagInUse tag = true ↔ tag ∈ i.tags := by
  simp [LinkState.tagInUse, LinkState.tags]

theorem clockPut_eq (l : Link) (ps : List Byte) (s : State) :
    clockPut l (frameLength ps) s = s.setLink l { s.link l with sent := putOut l ps } := by
  cases l <;> rfl

/-- An accepted request is taken with its tag outstanding (R169). -/
theorem acceptRequest_accepts {l : Link} {tag : Tag} {ps : List Byte} {s : State} (take : State → State)
    (h : s.accepts l tag ps) : acceptRequest l tag ps take s = take (s.accepted l tag ps) := by
  obtain ⟨hr, ht, hp⟩ := h
  have hp' : ¬ Config.parameterBytes < ps.length := Nat.not_lt.mpr hp
  have ht' : ((s.setLink l { s.link l with sent := putOut l ps }).link l).tagInUse tag = false := by
    rw [State.link_setLink_self]
    exact ht
  simp only [acceptRequest, hr, Bool.false_eq_true, if_false, clockPut_eq, if_neg hp', takeFrame, ht']
  simp only [holdTag, State.link_setLink_self, State.setLink_setLink, State.accepted]

/-- No exchange is taken while RSTN is low (R182). -/
theorem acceptRequest_held (l : Link) (tag : Tag) (ps : List Byte) (take : State → State) (s : State)
    (h : s.rstnLow = true) : acceptRequest l tag ps take s = s := by
  simp only [acceptRequest, if_pos h]

theorem acceptReset_held (l : Link) (ps : List Byte) (take : State → State) (s : State) (h : s.rstnLow = true) :
    acceptReset l ps take s = s := by
  simp only [acceptReset, if_pos h]

/-- A reset request is taken whatever its tag (R169). -/
theorem acceptReset_taken (l : Link) (ps : List Byte) (take : State → State) (s : State) (h : s.rstnLow = false)
    (hp : ps.length ≤ Config.parameterBytes) : acceptReset l ps take s = take (clockPut l (frameLength ps) s) := by
  have hp' : ¬ Config.parameterBytes < ps.length := Nat.not_lt.mpr hp
  simp only [acceptReset, h, Bool.false_eq_true, if_false, if_neg hp']

theorem accepted_outstanding (s : State) (l : Link) (tag : Tag) (ps : List Byte) :
    tag ∈ ((s.accepted l tag ps).link l).outstanding := by
  simp [State.accepted]

theorem erase_append_self {tag : Tag} {ts : List Tag} (h : tag ∉ ts) : (ts ++ [tag]).erase tag = ts := by
  rw [List.erase_append_right _ h]
  simp

/-- An accepted request that is answered at once (R171). -/
theorem respond_accepted {l : Link} {tag : Tag} {ps : List Byte} {s : State} (o : Status) (d : List Byte)
    (h : s.accepts l tag ps) : respond l tag o d (s.accepted l tag ps) = s.answered l tag ps o d := by
  have ht := ((tagInUse_eq_false _ _).mp h.2.1).1
  rw [respond_outstanding _ _ _ _ _ (accepted_outstanding s l tag ps)]
  simp only [State.accepted, State.link_setLink_self, State.setLink_setLink, State.answered, erase_append_self ht]

theorem answer_accepted {l : Link} {tag : Tag} {ps : List Byte} {s : State} (o : Status) (h : s.accepts l tag ps) :
    answer l tag o (s.accepted l tag ps) = s.answered l tag ps o [] :=
  respond_accepted o [] h

/-- The parameter check refuses a block that reads as nothing (R187). -/
theorem acceptRequest_malformed {α : Type} {l : Link} {tag : Tag} {ps : List Byte} {s : State}
    (take : α → State → State) (h : s.accepts l tag ps) :
    acceptRequest l tag ps (withBlock l tag none take) s = s.answered l tag ps .badParameter [] := by
  rw [acceptRequest_accepts _ h]
  exact answer_accepted _ h

/-! ### Accepted states read as the states before -/

@[simp] theorem accepted_now (s : State) (l : Link) (tag : Tag) (ps : List Byte) :
    (s.accepted l tag ps).now = s.now := rfl
@[simp] theorem accepted_rstnLow (s : State) (l : Link) (tag : Tag) (ps : List Byte) :
    (s.accepted l tag ps).rstnLow = s.rstnLow := rfl
@[simp] theorem accepted_linkBAddress (s : State) (l : Link) (tag : Tag) (ps : List Byte) :
    (s.accepted l tag ps).linkBAddress = s.linkBAddress := rfl
@[simp] theorem accepted_tSess (s : State) (l : Link) (tag : Tag) (ps : List Byte) :
    (s.accepted l tag ps).tSess = s.tSess := rfl
@[simp] theorem accepted_tCmt (s : State) (l : Link) (tag : Tag) (ps : List Byte) :
    (s.accepted l tag ps).tCmt = s.tCmt := rfl
@[simp] theorem accepted_records (s : State) (l : Link) (tag : Tag) (ps : List Byte) :
    (s.accepted l tag ps).records = s.records := rfl
@[simp] theorem accepted_generations (s : State) (l : Link) (tag : Tag) (ps : List Byte) :
    (s.accepted l tag ps).generations = s.generations := rfl
@[simp] theorem accepted_segments (s : State) (l : Link) (tag : Tag) (ps : List Byte) :
    (s.accepted l tag ps).segments = s.segments := rfl
@[simp] theorem accepted_groups (s : State) (l : Link) (tag : Tag) (ps : List Byte) :
    (s.accepted l tag ps).groups = s.groups := rfl
@[simp] theorem accepted_epoch (s : State) (l : Link) (tag : Tag) (ps : List Byte) :
    (s.accepted l tag ps).epoch = s.epoch := rfl
@[simp] theorem accepted_session (s : State) (l : Link) (tag : Tag) (ps : List Byte) :
    (s.accepted l tag ps).session = s.session := rfl
@[simp] theorem accepted_pool (s : State) (l : Link) (tag : Tag) (ps : List Byte) :
    (s.accepted l tag ps).pool = s.pool := rfl
@[simp] theorem accepted_waiting (s : State) (l : Link) (tag : Tag) (ps : List Byte) :
    (s.accepted l tag ps).waiting = s.waiting := rfl
@[simp] theorem accepted_engines (s : State) (l : Link) (tag : Tag) (ps : List Byte) :
    (s.accepted l tag ps).engines = s.engines := rfl
@[simp] theorem accepted_lines (s : State) (l : Link) (tag : Tag) (ps : List Byte) :
    (s.accepted l tag ps).lines = s.lines := rfl
@[simp] theorem accepted_units (s : State) (l : Link) (tag : Tag) (ps : List Byte) :
    (s.accepted l tag ps).units = s.units := rfl
@[simp] theorem accepted_reservations (s : State) (l : Link) (tag : Tag) (ps : List Byte) :
    (s.accepted l tag ps).reservations = s.reservations := rfl
@[simp] theorem accepted_contexts (s : State) (l : Link) (tag : Tag) (ps : List Byte) :
    (s.accepted l tag ps).contexts = s.contexts := rfl
@[simp] theorem accepted_pending (s : State) (l : Link) (tag : Tag) (ps : List Byte) :
    (s.accepted l tag ps).pending = s.pending := rfl

@[simp] theorem answered_now (s : State) (l : Link) (tag : Tag) (ps : List Byte) (o : Status) (d : List Byte) :
    (s.answered l tag ps o d).now = s.now := rfl
@[simp] theorem answered_rstnLow (s : State) (l : Link) (tag : Tag) (ps : List Byte) (o : Status) (d : List Byte) :
    (s.answered l tag ps o d).rstnLow = s.rstnLow := rfl
@[simp] theorem answered_linkBAddress (s : State) (l : Link) (tag : Tag) (ps : List Byte) (o : Status) (d : List Byte) :
    (s.answered l tag ps o d).linkBAddress = s.linkBAddress := rfl
@[simp] theorem answered_tSess (s : State) (l : Link) (tag : Tag) (ps : List Byte) (o : Status) (d : List Byte) :
    (s.answered l tag ps o d).tSess = s.tSess := rfl
@[simp] theorem answered_tCmt (s : State) (l : Link) (tag : Tag) (ps : List Byte) (o : Status) (d : List Byte) :
    (s.answered l tag ps o d).tCmt = s.tCmt := rfl
@[simp] theorem answered_records (s : State) (l : Link) (tag : Tag) (ps : List Byte) (o : Status) (d : List Byte) :
    (s.answered l tag ps o d).records = s.records := rfl
@[simp] theorem answered_generations (s : State) (l : Link) (tag : Tag) (ps : List Byte) (o : Status) (d : List Byte) :
    (s.answered l tag ps o d).generations = s.generations := rfl
@[simp] theorem answered_segments (s : State) (l : Link) (tag : Tag) (ps : List Byte) (o : Status) (d : List Byte) :
    (s.answered l tag ps o d).segments = s.segments := rfl
@[simp] theorem answered_groups (s : State) (l : Link) (tag : Tag) (ps : List Byte) (o : Status) (d : List Byte) :
    (s.answered l tag ps o d).groups = s.groups := rfl
@[simp] theorem answered_epoch (s : State) (l : Link) (tag : Tag) (ps : List Byte) (o : Status) (d : List Byte) :
    (s.answered l tag ps o d).epoch = s.epoch := rfl
@[simp] theorem answered_session (s : State) (l : Link) (tag : Tag) (ps : List Byte) (o : Status) (d : List Byte) :
    (s.answered l tag ps o d).session = s.session := rfl
@[simp] theorem answered_pool (s : State) (l : Link) (tag : Tag) (ps : List Byte) (o : Status) (d : List Byte) :
    (s.answered l tag ps o d).pool = s.pool := rfl
@[simp] theorem answered_waiting (s : State) (l : Link) (tag : Tag) (ps : List Byte) (o : Status) (d : List Byte) :
    (s.answered l tag ps o d).waiting = s.waiting := rfl
@[simp] theorem answered_engines (s : State) (l : Link) (tag : Tag) (ps : List Byte) (o : Status) (d : List Byte) :
    (s.answered l tag ps o d).engines = s.engines := rfl
@[simp] theorem answered_lines (s : State) (l : Link) (tag : Tag) (ps : List Byte) (o : Status) (d : List Byte) :
    (s.answered l tag ps o d).lines = s.lines := rfl
@[simp] theorem answered_units (s : State) (l : Link) (tag : Tag) (ps : List Byte) (o : Status) (d : List Byte) :
    (s.answered l tag ps o d).units = s.units := rfl
@[simp] theorem answered_reservations (s : State) (l : Link) (tag : Tag) (ps : List Byte) (o : Status) (d : List Byte) :
    (s.answered l tag ps o d).reservations = s.reservations := rfl
@[simp] theorem answered_contexts (s : State) (l : Link) (tag : Tag) (ps : List Byte) (o : Status) (d : List Byte) :
    (s.answered l tag ps o d).contexts = s.contexts := rfl
@[simp] theorem answered_pending (s : State) (l : Link) (tag : Tag) (ps : List Byte) (o : Status) (d : List Byte) :
    (s.answered l tag ps o d).pending = s.pending := rfl

@[simp] theorem accepted_engine (s : State) (l : Link) (tag : Tag) (ps : List Byte) (p : Port) :
    (s.accepted l tag ps).engine p = s.engine p := rfl
@[simp] theorem accepted_unit (s : State) (l : Link) (tag : Tag) (ps : List Byte) (p : Port) :
    (s.accepted l tag ps).unit p = s.unit p := rfl
@[simp] theorem accepted_record? (s : State) (l : Link) (tag : Tag) (ps : List Byte) (h : Handle) :
    (s.accepted l tag ps).record? h = s.record? h := rfl

end Sys2Proof.Machine
end

