-- ==== Sys2Proof/Laws/Requests.lean ====
section
/-! SUPPORT. Each request that is accepted runs its take in the state with its tag outstanding (R169, R171); each reset is
taken whatever its tag. -/
namespace Sys2Proof.Machine

theorem exec_queryEndpoint {l : Link} {tag : Tag} {ps : List Byte} {s : State} (h : s.accepts l tag ps) :
    exec (.queryEndpoint l tag ps) s = .next (takeQueryEndpoint l tag ps (s.accepted l tag ps)) :=
  congrArg Host.Outcome.next (acceptRequest_accepts _ h)

theorem exec_lookup {l : Link} {tag : Tag} {ps : List Byte} {s : State} (h : s.accepts l tag ps) :
    exec (.lookup l tag ps) s = .next (takeLookup l tag ps (s.accepted l tag ps)) :=
  congrArg Host.Outcome.next (acceptRequest_accepts _ h)

theorem exec_listEndpoints {l : Link} {tag : Tag} {ps : List Byte} {s : State} (h : s.accepts l tag ps) :
    exec (.listEndpoints l tag ps) s = .next (takeListEndpoints l tag ps (s.accepted l tag ps)) :=
  congrArg Host.Outcome.next (acceptRequest_accepts _ h)

theorem exec_querySegment {l : Link} {tag : Tag} {ps : List Byte} {s : State} (h : s.accepts l tag ps) :
    exec (.querySegment l tag ps) s = .next (takeQuerySegment l tag ps (s.accepted l tag ps)) :=
  congrArg Host.Outcome.next (acceptRequest_accepts _ h)

theorem exec_queryGroup {l : Link} {tag : Tag} {ps : List Byte} {s : State} (h : s.accepts l tag ps) :
    exec (.queryGroup l tag ps) s = .next (takeQueryGroup l tag ps (s.accepted l tag ps)) :=
  congrArg Host.Outcome.next (acceptRequest_accepts _ h)

theorem exec_queryDirectory {l : Link} {tag : Tag} {ps : List Byte} {s : State} (h : s.accepts l tag ps) :
    exec (.queryDirectory l tag ps) s = .next (takeQueryDirectory l tag ps (s.accepted l tag ps)) :=
  congrArg Host.Outcome.next (acceptRequest_accepts _ h)

theorem exec_openSession {l : Link} {tag : Tag} {ps : List Byte} {s : State} (h : s.accepts l tag ps) :
    exec (.openSession l tag ps) s = .next (takeOpenSession l tag ps (s.accepted l tag ps)) :=
  congrArg Host.Outcome.next (acceptRequest_accepts _ h)

theorem exec_discardSession {l : Link} {tag : Tag} {ps : List Byte} {s : State} (h : s.accepts l tag ps) :
    exec (.discardSession l tag ps) s = .next (takeDiscardSession l tag ps (s.accepted l tag ps)) :=
  congrArg Host.Outcome.next (acceptRequest_accepts _ h)

theorem exec_addEndpoint {l : Link} {tag : Tag} {ps : List Byte} {s : State} (h : s.accepts l tag ps) :
    exec (.addEndpoint l tag ps) s = .next (takeAddEndpoint l tag ps (s.accepted l tag ps)) :=
  congrArg Host.Outcome.next (acceptRequest_accepts _ h)

theorem exec_modifyEndpoint {l : Link} {tag : Tag} {ps : List Byte} {s : State} (h : s.accepts l tag ps) :
    exec (.modifyEndpoint l tag ps) s = .next (takeModifyEndpoint l tag ps (s.accepted l tag ps)) :=
  congrArg Host.Outcome.next (acceptRequest_accepts _ h)

theorem exec_retireEndpoint {l : Link} {tag : Tag} {ps : List Byte} {s : State} (h : s.accepts l tag ps) :
    exec (.retireEndpoint l tag ps) s = .next (takeRetireEndpoint l tag ps (s.accepted l tag ps)) :=
  congrArg Host.Outcome.next (acceptRequest_accepts _ h)

theorem exec_addSegment {l : Link} {tag : Tag} {ps : List Byte} {s : State} (h : s.accepts l tag ps) :
    exec (.addSegment l tag ps) s = .next (takeAddSegment l tag ps (s.accepted l tag ps)) :=
  congrArg Host.Outcome.next (acceptRequest_accepts _ h)

theorem exec_retireSegment {l : Link} {tag : Tag} {ps : List Byte} {s : State} (h : s.accepts l tag ps) :
    exec (.retireSegment l tag ps) s = .next (takeRetireSegment l tag ps (s.accepted l tag ps)) :=
  congrArg Host.Outcome.next (acceptRequest_accepts _ h)

theorem exec_setGroup {l : Link} {tag : Tag} {ps : List Byte} {s : State} (h : s.accepts l tag ps) :
    exec (.setGroup l tag ps) s = .next (takeSetGroup l tag ps (s.accepted l tag ps)) :=
  congrArg Host.Outcome.next (acceptRequest_accepts _ h)

theorem exec_commit {l : Link} {tag : Tag} {ps : List Byte} {s : State} (h : s.accepts l tag ps) :
    exec (.commit l tag ps) s = .next (takeCommit l tag ps (s.accepted l tag ps)) :=
  congrArg Host.Outcome.next (acceptRequest_accepts _ h)

theorem exec_abortCommit {l : Link} {tag : Tag} {ps : List Byte} {s : State} (h : s.accepts l tag ps) :
    exec (.abortCommit l tag ps) s = .next (takeAbortCommit l tag ps (s.accepted l tag ps)) :=
  congrArg Host.Outcome.next (acceptRequest_accepts _ h)

theorem exec_transact {l : Link} {tag : Tag} {ps : List Byte} {s : State} (h : s.accepts l tag ps) :
    exec (.transact l tag ps) s = .next (takeTransact l tag ps (s.accepted l tag ps)) :=
  congrArg Host.Outcome.next (acceptRequest_accepts _ h)

theorem exec_release {l : Link} {tag : Tag} {ps : List Byte} {s : State} (h : s.accepts l tag ps) :
    exec (.release l tag ps) s = .next (takeRelease l tag ps (s.accepted l tag ps)) :=
  congrArg Host.Outcome.next (acceptRequest_accepts _ h)

theorem exec_quarantine {l : Link} {tag : Tag} {ps : List Byte} {s : State} (h : s.accepts l tag ps) :
    exec (.quarantine l tag ps) s = .next (takeQuarantine l tag ps (s.accepted l tag ps)) :=
  congrArg Host.Outcome.next (acceptRequest_accepts _ h)

theorem exec_clearScore {l : Link} {tag : Tag} {ps : List Byte} {s : State} (h : s.accepts l tag ps) :
    exec (.clearScore l tag ps) s = .next (takeClearScore l tag ps (s.accepted l tag ps)) :=
  congrArg Host.Outcome.next (acceptRequest_accepts _ h)

theorem exec_reserve {l : Link} {tag : Tag} {ps : List Byte} {s : State} (h : s.accepts l tag ps) :
    exec (.reserve l tag ps) s = .next (takeReserve l tag ps (s.accepted l tag ps)) :=
  congrArg Host.Outcome.next (acceptRequest_accepts _ h)

theorem exec_unreserve {l : Link} {tag : Tag} {ps : List Byte} {s : State} (h : s.accepts l tag ps) :
    exec (.unreserve l tag ps) s = .next (takeUnreserve l tag ps (s.accepted l tag ps)) :=
  congrArg Host.Outcome.next (acceptRequest_accepts _ h)

theorem exec_groupTransact {l : Link} {tag : Tag} {ps : List Byte} {s : State} (h : s.accepts l tag ps) :
    exec (.groupTransact l tag ps) s = .next (takeGroupTransact l tag ps (s.accepted l tag ps)) :=
  congrArg Host.Outcome.next (acceptRequest_accepts _ h)

theorem exec_configurePort {l : Link} {tag : Tag} {ps : List Byte} {s : State} (h : s.accepts l tag ps) :
    exec (.configurePort l tag ps) s = .next (takeConfigurePort l tag ps (s.accepted l tag ps)) :=
  congrArg Host.Outcome.next (acceptRequest_accepts _ h)

theorem exec_queryPort {l : Link} {tag : Tag} {ps : List Byte} {s : State} (h : s.accepts l tag ps) :
    exec (.queryPort l tag ps) s = .next (takeQueryPort l tag ps (s.accepted l tag ps)) :=
  congrArg Host.Outcome.next (acceptRequest_accepts _ h)

theorem exec_clearBus {l : Link} {tag : Tag} {ps : List Byte} {s : State} (h : s.accepts l tag ps) :
    exec (.clearBus l tag ps) s = .next (takeClearBus l tag ps (s.accepted l tag ps)) :=
  congrArg Host.Outcome.next (acceptRequest_accepts _ h)

theorem exec_resumePort {l : Link} {tag : Tag} {ps : List Byte} {s : State} (h : s.accepts l tag ps) :
    exec (.resumePort l tag ps) s = .next (takeResumePort l tag ps (s.accepted l tag ps)) :=
  congrArg Host.Outcome.next (acceptRequest_accepts _ h)

theorem exec_identify {l : Link} {tag : Tag} {ps : List Byte} {s : State} (h : s.accepts l tag ps) :
    exec (.identify l tag ps) s = .next (takeIdentify l tag ps (s.accepted l tag ps)) :=
  congrArg Host.Outcome.next (acceptRequest_accepts _ h)

theorem exec_configureLink {l : Link} {tag : Tag} {ps : List Byte} {s : State} (h : s.accepts l tag ps) :
    exec (.configureLink l tag ps) s = .next (takeConfigureLink l tag ps (s.accepted l tag ps)) :=
  congrArg Host.Outcome.next (acceptRequest_accepts _ h)

theorem exec_configureDevice {l : Link} {tag : Tag} {ps : List Byte} {s : State} (h : s.accepts l tag ps) :
    exec (.configureDevice l tag ps) s = .next (takeConfigureDevice l tag ps (s.accepted l tag ps)) :=
  congrArg Host.Outcome.next (acceptRequest_accepts _ h)

theorem exec_getAttention {l : Link} {tag : Tag} {ps : List Byte} {s : State} (h : s.accepts l tag ps) :
    exec (.getAttention l tag ps) s = .next (takeGetAttention l tag ps (s.accepted l tag ps)) :=
  congrArg Host.Outcome.next (acceptRequest_accepts _ h)

theorem exec_linkReset {l : Link} {tag : Tag} {ps : List Byte} {s : State} (h : s.rstnLow = false) (hp : ps.length ≤ 64) :
    exec (.linkReset l tag ps) s = .next (takeLinkReset l tag (clockPut l (frameLength ps) s)) :=
  congrArg Host.Outcome.next (acceptReset_taken l ps _ s h hp)

theorem exec_softReset {l : Link} {tag : Tag} {ps : List Byte} {s : State} (h : s.rstnLow = false) (hp : ps.length ≤ 64) :
    exec (.softReset l tag ps) s = .next (takeSoftReset l tag (clockPut l (frameLength ps) s)) :=
  congrArg Host.Outcome.next (acceptReset_taken l ps _ s h hp)

theorem withBlock_some {α : Type} {l : Link} {tag : Tag} {block : Option α} {a : α} (take : α → State → State)
    (s : State) (h : block = some a) : withBlock l tag block take s = take a s := by
  rw [h]
  rfl

theorem withBlock_none {α : Type} {l : Link} {tag : Tag} {block : Option α} (take : α → State → State) (s : State)
    (h : block = none) : withBlock l tag block take s = answer l tag .badParameter s := by
  rw [h]
  rfl

theorem withRecord_some {l : Link} {tag : Tag} {h : Handle} {r : Record} (take : Record → State → State) {s : State}
    (hr : s.record? h = some r) : withRecord l tag h take s = take r s := by
  simp only [withRecord, hr]

theorem withRecord_none {l : Link} {tag : Tag} {h : Handle} (take : Record → State → State) {s : State}
    (hr : s.record? h = none) : withRecord l tag h take s = answer l tag .staleHandle s := by
  simp only [withRecord, hr]

end Sys2Proof.Machine
end

