-- ==== Sys2Proof/Laws/Completion.lean ====
section
/-! SUPPORT. What the end of a transaction comes to where it touches nothing else: no member waits for a slot, no armed
commit affects the record, and no quarantine follows (R59). -/
namespace Sys2Proof.Machine

/-- With no member waiting, a hand-out does nothing (R54). -/
theorem handOut_none {s : State} (h : s.waiting = []) : handOut s = s := by
  simp only [handOut, h, List.foldl_nil]

theorem freeSlot_none {s : State} (slot : Nat) (h : s.waiting = []) : freeSlot slot s = s.withoutSlot slot :=
  handOut_none h

/-- The examination of a record that no armed commit affects does nothing (R42). -/
theorem examine_skip {s : State} {h : Handle} (hp : s.commitPending h = false) : examine [h] s = s := by
  simp only [examine, List.any_cons, List.any_nil, hp, Bool.or_false, Bool.false_and, Bool.false_eq_true, if_false]

/-- The ACTIVE transaction of a port is the one in the slot that its work names. -/
theorem activeTxn_slot {s : State} {p : Port} {t : Txn} (h : s.activeTxn? p = some t) :
    (s.engine p).activeSlot? = some t.slot := by
  simp only [State.activeTxn?, Option.bind_eq_some_iff] at h
  obtain ⟨n, hn, ht⟩ := h
  have := List.find?_some ht
  simp only [decide_eq_true_eq] at this
  rw [hn, this]

theorem activeTxn_setEngine {s : State} {p : Port} {e : Engine} (h : e.activeSlot? = (s.engine p).activeSlot?) :
    (s.setEngine p e).activeTxn? p = s.activeTxn? p := by
  simp only [State.activeTxn?, State.engine_setEngine_self, h]
  rfl

/-- A TRANSACT whose end touches nothing else is still such a one after a change of the lines, the containment unit
and the engine of a port, and of the attention sets. -/
theorem State.runs.frame {s u : State} {p : Port} {t : Txn} {l : Link} {tag : Tag} {r : Record}
    (h : s.runs p t l tag r) (ha : (u.engine p).activeSlot? = (s.engine p).activeSlot?) (hpool : u.pool = s.pool)
    (hr : u.records = s.records) (hg : u.generations = s.generations) (hw : u.waiting = s.waiting)
    (hs : u.session = s.session) (ho : (u.link l).outstanding = (s.link l).outstanding) : u.runs p t l tag r := by
  obtain ⟨h1, h2, h3, h4, h5, h6⟩ := h
  refine ⟨?_, h2, ho ▸ h3, ?_, hw.trans h5, ?_⟩
  · have hx : u.txn? = s.txn? := by
      funext n
      rw [State.txn?, State.txn?, hpool]
    rw [State.activeTxn?, ha, hx]
    exact h1
  · have hx : u.record? t.handle = s.record? t.handle := by
      rw [State.record?, State.record?, State.generation, State.generation, hr, hg]
    exact hx.trans h4
  · simpa only [State.commitPending, hs] using h6

/-- A health report leads to no entry (R107). -/
theorem entryDue_eq_false {s : State} {t : Txn} {r : Record} (o : Status) (hr : s.record? t.handle = some r)
    (h : o.counts = false ∨ r.runtime.health ≠ .active ∨
      min (r.runtime.score + r.config.weight) 63 < r.config.threshold) : entryDue s t o = false := by
  simp only [entryDue, hr]
  rcases h with h | h | h
  · simp [h]
  · have : r.runtime.health.isActive = false := by
      revert h
      cases r.runtime.health <;> simp [Health.isActive]
    simp [this]
  · cases hc : o.counts
    · simp
    · have hne : o ≠ .ok := by
        rintro rfl
        exact absurd hc (by decide)
      have : ¬ r.config.threshold ≤ scoreAfter r.config.weight r.runtime.score o := by
        simp only [scoreAfter, hne, if_false, hc, if_true, Config.scoreMax]
        omega
      simp [this]

/-- The completion of a TRANSACT that touches nothing else (R59, R60). -/
theorem complete_runs {s : State} {p : Port} {t : Txn} {l : Link} {tag : Tag} {r : Record} (o : Status)
    (d : List Byte) (h : s.runs p t l tag r) (hd : entryDue s t o = false) :
    complete p o d s = (s.completed p t l tag
      { r with runtime := { r.runtime with
          score := scoreAfter r.config.weight r.runtime.score o, writeBusy := writeBusyAfter s t r o } }
      o (t.dataFor o d)).setEngine p ((s.engine p).afterOutcome o s.now) := by
  obtain ⟨h1, ⟨h2, h2'⟩, h3, h4, h5, h6⟩ := h
  have hp : t.origin.isProbe = false := by rw [h2]; rfl
  have hr : ∀ e, (s.setEngine p e).record? t.handle = some r := fun _ => h4
  simp only [complete, h1, hd, followUp, Bool.false_eq_true, if_false, reportHealth, hr, reported, hp,
    State.setRuntime]
  rw [freeSlot_none _ (by exact h5)]
  simp only [deliver, h2', Bool.false_eq_true, if_false, deliverTo, h2]
  rw [respond_outstanding _ _ _ _ _ (by exact h3), examine_skip (by exact h6)]
  simp only [State.completed, State.setEngine, State.withoutSlot, State.setLink, PerPort.set_set]
  rfl

/-- The end of a phase with its transaction's completion, where no abort is pending (R85, R88). -/
theorem runs_endPhase {s : State} {p : Port} {t : Txn} {l : Link} {tag : Tag} {r : Record} (h : s.runs p t l tag r) :
    (endPhase p s).runs p t l tag r :=
  State.runs.frame (u := endPhase p s) h (by rw [engine_endPhase]; rfl) (endPhase_pool p s) (endPhase_records p s)
    (endPhase_generations p s) (endPhase_waiting p s) (endPhase_session p s) (by rw [link_endPhase])

/-- The engine of a completed transaction comes to rest whatever phase it was in. -/
theorem completed_setEngine (s : State) (p : Port) (t : Txn) (l : Link) (tag : Tag) (r : Record) (o : Status)
    (d : List Byte) (e : Engine) (h : e.atRest = (s.engine p).atRest) :
    (s.setEngine p e).completed p t l tag r o d = s.completed p t l tag r o d := by
  rw [State.completed, State.engine_setEngine_self, h]
  simp only [State.completed, State.withoutSlot, State.setEngine, PerPort.set_set]
  rfl

theorem completed_endPhase (s : State) (p : Port) (t : Txn) (l : Link) (tag : Tag) (r : Record) (o : Status)
    (d : List Byte) :
    (endPhase p s).completed p t l tag r o d = (releaseLines p s).completed p t l tag r o d := by
  rw [endPhase, releaseLines_setEngine, completed_setEngine]
  rw [engine_releaseLines]
  rfl

theorem completed_atRest (s : State) (p : Port) (t : Txn) (l : Link) (tag : Tag) (r : Record) (o : Status)
    (d : List Byte) : (s.completed p t l tag r o d).setEngine p (s.engine p).atRest = s.completed p t l tag r o d := by
  simp only [State.completed, State.setEngine, State.withoutSlot, PerPort.set_set]

/-- The engine after an outcome other than BUS_STUCK and SEGMENT_FAULT (R76). -/
theorem Engine.afterOutcome_plain {e : Engine} {o : Status} {now : Time} (h : o ≠ .busStuck)
    (g : o ≠ .segmentFault) : e.afterOutcome o now = e.atRest := by
  simp only [Engine.afterOutcome, if_neg h, Engine.atRest]
  cases o <;> simp_all [openAfter]

/-- An event at which no abort is pending has its own effect (R133). -/
theorem atBoundary_own {s : State} {p : Port} (own : State → State) (h : (s.engine p).abortPending = false) :
    atBoundary p own s = own s := by
  simp only [atBoundary, h, Bool.false_eq_true, if_false]

theorem atBoundary_endPhase {s : State} {p : Port} (own : State → State) (h : (s.engine p).abortPending = false) :
    atBoundary p own (endPhase p s) = own (endPhase p s) :=
  atBoundary_own own (by rw [engine_endPhase]; exact h)

/-- The end of a phase with the completion of a TRANSACT that touches nothing else, but for BUS_STUCK and
SEGMENT_FAULT. -/
theorem complete_endPhase {s : State} {p : Port} {t : Txn} {l : Link} {tag : Tag} {r : Record} (o : Status)
    (d : List Byte) (h : s.runs p t l tag r) (hd : entryDue s t o = false) (h1 : o ≠ .busStuck)
    (h2 : o ≠ .segmentFault) :
    complete p o d (endPhase p s) = (releaseLines p s).completed p t l tag
      { r with runtime := { r.runtime with
          score := scoreAfter r.config.weight r.runtime.score o, writeBusy := writeBusyAfter s t r o } }
      o (t.dataFor o d) := by
  have hr := runs_endPhase h
  have hd' : entryDue (endPhase p s) t o = false := by
    simp only [entryDue, hr.2.2.2.1]
    simpa only [entryDue, h.2.2.2.1] using hd
  have hw : writeBusyAfter (endPhase p s) t r o = writeBusyAfter s t r o := by
    simp only [writeBusyAfter, State.after, endPhase_now]
  rw [complete_runs o d hr hd', Engine.afterOutcome_plain h1 h2, completed_atRest, completed_endPhase, hw]

/-- The record after a counted outcome (R97). -/
theorem record_counted (s : State) (t : Txn) (r : Record) {o : Status} (h : o.counts = true) :
    ({ r with runtime := { r.runtime with
        score := scoreAfter r.config.weight r.runtime.score o, writeBusy := writeBusyAfter s t r o } } : Record) =
      r.withScore (min (r.runtime.score + r.config.weight) 63) := by
  have hne : o ≠ .ok := by
    rintro rfl
    exact absurd h (by decide)
  simp only [scoreAfter, writeBusyAfter, hne, h, and_false, if_false, if_true, Record.withScore, Config.scoreMax]

/-- The record after an outcome that is neither OK nor counted (R97). -/
theorem record_neutral (s : State) (t : Txn) (r : Record) {o : Status} (h : o.counts = false) (g : o ≠ .ok) :
    ({ r with runtime := { r.runtime with
        score := scoreAfter r.config.weight r.runtime.score o, writeBusy := writeBusyAfter s t r o } } : Record) =
      r := by
  simp only [scoreAfter, writeBusyAfter, g, h, and_false, if_false, Bool.false_eq_true]

/-- Only an OK READ delivers bytes (R60). -/
theorem dataFor_failed (t : Txn) (d : List Byte) {o : Status} (g : o ≠ .ok) : t.dataFor o d = [] := by
  simp only [Txn.dataFor, g, and_false, if_false]

theorem engine_completed (s : State) (p : Port) (t : Txn) (l : Link) (tag : Tag) (r : Record) (o : Status)
    (d : List Byte) : (s.completed p t l tag r o d).engine p = (s.engine p).atRest :=
  PerPort.get_set_self _ _ _

/-- A record is read from the table of records and the generations alone. -/
theorem record_congr {s u : State} (h : Handle) (hr : u.records = s.records) (hg : u.generations = s.generations) :
    u.record? h = s.record? h := by
  rw [State.record?, State.record?, State.generation, State.generation, hr, hg]

end Sys2Proof.Machine
end

