-- ==== Sys2Proof/Laws/Flow.lean ====
section
/-! SUPPORT. What everything below a completion can do: the relation Flow, kept by every operation that records an
outcome, delivers a response, offers a slot or takes the commit point. A proof about such an operation cites its
lemma here instead of unfolding it. -/
namespace Sys2Proof.Machine

/-- A link interface after deliveries: responses have moved tags from the outstanding ones to the queue. -/
structure LinkFlow (i j : LinkState) : Prop where
  config : j.config = i.config
  frameErrors : j.frameErrors = i.frameErrors
  getting : j.getting = i.getting
  sent : j.sent = i.sent
  tags : j.tags.Perm i.tags
  outstanding : j.outstanding.Sublist i.outstanding
  queue : ∃ added, j.queue = i.queue ++ added

/-- The state after deliveries, removals and perhaps a commit point. -/
structure Flow (s t : State) : Prop where
  now : t.now = s.now
  rstnLow : t.rstnLow = s.rstnLow
  linkBAddress : t.linkBAddress = s.linkBAddress
  tSess : t.tSess = s.tSess
  tCmt : t.tCmt = s.tCmt
  engines : t.engines = s.engines
  lines : t.lines = s.lines
  units : t.units = s.units
  pending : t.pending = s.pending
  session : (t.session = s.session ∧ t.epoch = s.epoch) ∨
    (s.session.commit?.isSome = true ∧ t.session = .absent ∧ t.epoch = s.epoch + 1)
  links : ∀ l, LinkFlow (s.link l) (t.link l)
  pool : s.poolBounded → t.poolBounded

theorem LinkFlow.refl (i : LinkState) : LinkFlow i i :=
  ⟨rfl, rfl, rfl, rfl, .refl _, .refl _, [], by simp⟩

theorem LinkFlow.trans {i j k : LinkState} (h : LinkFlow i j) (g : LinkFlow j k) : LinkFlow i k := by
  obtain ⟨a, ha⟩ := h.queue
  obtain ⟨b, hb⟩ := g.queue
  exact ⟨g.config.trans h.config, g.frameErrors.trans h.frameErrors, g.getting.trans h.getting, g.sent.trans h.sent,
    g.tags.trans h.tags, g.outstanding.trans h.outstanding, a ++ b, by rw [hb, ha, List.append_assoc]⟩

theorem Flow.refl (s : State) : Flow s s :=
  ⟨rfl, rfl, rfl, rfl, rfl, rfl, rfl, rfl, rfl, .inl ⟨rfl, rfl⟩, fun _ => .refl _, id⟩

theorem Flow.trans {s t u : State} (h : Flow s t) (g : Flow t u) : Flow s u := by
  refine ⟨g.now.trans h.now, g.rstnLow.trans h.rstnLow, g.linkBAddress.trans h.linkBAddress, g.tSess.trans h.tSess,
    g.tCmt.trans h.tCmt, g.engines.trans h.engines, g.lines.trans h.lines, g.units.trans h.units,
    g.pending.trans h.pending, ?_, fun l => (h.links l).trans (g.links l), fun x => g.pool (h.pool x)⟩
  rcases h.session with ⟨h1, h2⟩ | ⟨h0, h1, h2⟩
  · rcases g.session with ⟨g1, g2⟩ | ⟨g0, g1, g2⟩
    · exact .inl ⟨g1.trans h1, g2.trans h2⟩
    · exact .inr ⟨h1 ▸ g0, g1, by rw [g2, h2]⟩
  · rcases g.session with ⟨g1, g2⟩ | ⟨g0, _, _⟩
    · exact .inr ⟨h0, g1.trans h1, g2.trans h2⟩
    · rw [h1] at g0
      exact absurd g0 (by decide)

theorem Flow.foldl {α : Type} (f : State → α → State) (h : ∀ s a, Flow s (f s a)) (xs : List α) (s : State) :
    Flow s (xs.foldl f s) := by
  induction xs generalizing s with
  | nil => exact .refl s
  | cons x rest ih => exact (h s x).trans (ih _)

/-! ### The links -/

theorem LinkFlow.respond {i : LinkState} {tag : Tag} (o : Status) (d : List Byte) (h : tag ∈ i.outstanding) :
    LinkFlow i { i with outstanding := i.outstanding.erase tag, queue := i.queue ++ [⟨tag, o, d⟩] } := by
  refine ⟨rfl, rfl, rfl, rfl, ?_, List.erase_sublist, [⟨tag, o, d⟩], rfl⟩
  have h1 : (i.outstanding.erase tag ++ (i.queue.map Response.tag ++ [tag])).Perm
      (tag :: (i.outstanding.erase tag ++ i.queue.map Response.tag)) := by
    rw [← List.append_assoc]
    exact List.perm_append_singleton _ _
  simp only [LinkState.tags, List.map_append, List.map_cons, List.map_nil]
  exact h1.trans ((List.perm_cons_erase h).symm.append_right _)

theorem Flow.setLink (s : State) (l : Link) (i : LinkState) (h : LinkFlow (s.link l) i) : Flow s (s.setLink l i) := by
  refine ⟨rfl, rfl, rfl, rfl, rfl, rfl, rfl, rfl, rfl, .inl ⟨rfl, rfl⟩, fun m => ?_, id⟩
  rw [State.link_setLink]
  split
  · next e => rw [e]; exact h
  · exact .refl _

theorem flow_raise (l : Link) (k : AttentionKind) (x : Subject) (s : State) : Flow s (raise l k x s) :=
  .setLink _ _ _ ⟨rfl, rfl, rfl, rfl, .refl _, .refl _, [], by simp⟩

theorem flow_raiseBoth (k : AttentionKind) (x : Subject) (s : State) : Flow s (raiseBoth k x s) :=
  (flow_raise .a k x s).trans (flow_raise .b k x _)

theorem flow_respond (l : Link) (tag : Tag) (o : Status) (d : List Byte) (s : State) :
    Flow s (respond l tag o d s) := by
  by_cases h : tag ∈ (s.link l).outstanding
  · rw [respond_outstanding _ _ _ _ _ h]
    exact .setLink _ _ _ (.respond o d h)
  · rw [respond_not_outstanding _ _ _ _ _ h]
    exact .refl s

/-! ### Records, reservations and contexts -/

/-- A change of these five pieces alone. -/
theorem Flow.sparse (s : State) (rs : Table Record) (vs : List Reservation) (xs : Table Context)
    (ws : List (Nat × Nat)) : Flow s { s with records := rs, reservations := vs, contexts := xs, waiting := ws } :=
  ⟨rfl, rfl, rfl, rfl, rfl, rfl, rfl, rfl, rfl, .inl ⟨rfl, rfl⟩, fun _ => .refl _, id⟩

theorem flow_setRuntime (h : Handle) (rt : Runtime) (s : State) : Flow s (s.setRuntime h rt) := by
  simp only [State.setRuntime]
  split
  · exact .sparse s _ s.reservations s.contexts s.waiting
  · exact .refl s

theorem flow_removeReservation (h : Handle) (s : State) : Flow s (removeReservation h s) :=
  .sparse s s.records _ s.contexts s.waiting

theorem flow_revokeReservation (h : Handle) (s : State) : Flow s (revokeReservation h s) := by
  simp only [revokeReservation]
  split
  · exact (flow_removeReservation h s).trans (flow_raise _ _ _ _)
  · exact .refl s

theorem flow_setContext (s : State) (c : Nat) (x : Context) : Flow s (s.setContext c x) :=
  .sparse s s.records s.reservations _ s.waiting

theorem flow_dropWaiting (c : Nat) (s : State) : Flow s (dropWaiting c s) :=
  .sparse s s.records s.reservations s.contexts _

theorem flow_setMember (c position : Nat) (m : MemberCondition) (s : State) : Flow s (setMember c position m s) := by
  simp only [setMember]
  split
  · exact flow_setContext s c _
  · exact .refl s

theorem flow_recordOutcome (c position : Nat) (o : Status) (d : List Byte) (s : State) :
    Flow s (recordOutcome c position o d s) := by
  simp only [recordOutcome]
  split
  · exact .refl s
  · split
    · exact (flow_setContext s c _).trans (flow_dropWaiting c _)
    · exact flow_setContext s c _

theorem flow_closeIfDone (c : Nat) (s : State) : Flow s (closeIfDone c s) := by
  simp only [closeIfDone]
  split
  · exact .refl s
  · split
    · exact (flow_respond _ _ _ _ s).trans (.sparse _ _ _ _ _)
    · exact .refl s

theorem flow_setStopFlag (c : Nat) (flag : Bool) (s : State) : Flow s (setStopFlag c flag s) := by
  simp only [setStopFlag]
  split
  · exact flow_setContext s c _
  · exact .refl s

/-! ### The slot pool -/

theorem lowestFree_some {bound n : Nat} {used : Nat → Bool} (h : lowestFree bound used = some n) :
    n < bound ∧ used n = false := by
  have h1 := List.find?_some h
  have h2 := List.mem_of_find?_eq_some h
  exact ⟨List.mem_range.mp h2, by simpa using h1⟩

/-- A change of the pool alone. -/
theorem Flow.pooled (s : State) (ts : List Txn) (h : s.poolBounded → ({ s with pool := ts } : State).poolBounded) :
    Flow s { s with pool := ts } :=
  ⟨rfl, rfl, rfl, rfl, rfl, rfl, rfl, rfl, rfl, .inl ⟨rfl, rfl⟩, fun _ => .refl _, h⟩

theorem flow_dropSlot (slot : Nat) (s : State) :
    Flow s { s with pool := s.pool.filter fun t => decide (t.slot ≠ slot) } := by
  refine .pooled s _ fun ⟨h1, h2, h3⟩ => ⟨?_, fun t ht => h2 t (List.mem_of_mem_filter ht), fun l => ?_⟩
  · exact (List.filter_sublist.map Txn.slot).nodup h1
  · exact Nat.le_trans ((List.filter_sublist.filter _).length_le) (h3 l)

/-- A placement under the slot check of R48 (R50, R52). -/
theorem flow_place (origin : Origin) (l : Link) (h : Handle) (cfg : EndpointConfig) (op : Operation)
    (index : Option (BitVec 24)) (length : Option Nat) (data : List Byte) (deadline : Time) (s : State)
    (open_ : s.slotOpen l = true) : Flow s (place origin l h cfg op index length data deadline s) := by
  simp only [place]
  split
  · exact .refl s
  · next n hn =>
    refine .pooled s _ fun ⟨h1, h2, h3⟩ => ?_
    obtain ⟨hlt, hfree⟩ := lowestFree_some hn
    have hroom : s.attributed l < Config.slotsPerLink := by
      simp only [State.slotOpen, Bool.and_eq_true, decide_eq_true_eq] at open_
      exact open_.2
    refine ⟨?_, ?_, ?_⟩
    · rw [List.map_append, List.nodup_append]
      refine ⟨h1, by simp, fun a ha b hb hab => ?_⟩
      simp only [List.map_cons, List.map_nil, List.mem_singleton] at hb
      obtain ⟨t, ht, hta⟩ := List.mem_map.mp ha
      have := List.any_eq_false.mp hfree t ht
      simp only [decide_eq_true_eq] at this
      exact this (by omega)
    · intro t ht
      rcases List.mem_append.mp ht with ht | ht
      · exact h2 t ht
      · rw [List.mem_singleton.mp ht]
        exact hlt
    · intro m
      simp only [State.attributed, List.filter_append, List.length_append]
      by_cases hm : l = m
      · subst hm
        simp only [State.attributed] at hroom
        simp
        omega
      · have := h3 m
        simp only [State.attributed] at this
        simp [hm]
        omega

theorem flow_placeMember (c position : Nat) (x : Context) (h : Handle) (r : Record) (s : State)
    (open_ : s.slotOpen x.link = true) : Flow s (placeMember c position x h r s) :=
  (flow_place _ _ _ _ _ _ _ _ _ s open_).trans (flow_setMember _ _ _ _)

theorem Context.overdue_eq_false {x : Context} {now : Time} (h : now < x.deadline) : x.overdue now = false := by
  have past : ¬ x.deadline < now := Nat.not_lt.2 (Nat.le_of_lt h)
  have meets : x.deadline ≠ now := Nat.ne_of_gt h
  simp only [Context.overdue, past, meets, decide_false, Bool.false_and, Bool.or_self]

/-- Before the instant of its deadline, a member that finds a slot is placed (R156, R157). -/
theorem claimSlot_placed {c position : Nat} {x : Context} {h : Handle} {r : Record} {s : State}
    (open_ : s.slotOpen x.link = true) (early : s.now < x.deadline) :
    claimSlot c position x h r s = placeMember c position x h r s := by
  simp only [claimSlot, open_, if_true, Context.overdue_eq_false early, Bool.false_eq_true, if_false]

theorem flow_claimSlot (c position : Nat) (x : Context) (h : Handle) (r : Record) (s : State) :
    Flow s (claimSlot c position x h r s) := by
  simp only [claimSlot]
  split
  · next ho =>
    split
    · exact flow_recordOutcome _ _ _ _ s
    · exact flow_placeMember c position x h r s ho
  · exact (flow_setMember _ _ _ s).trans (.sparse _ _ _ _ _)

theorem flow_issueMember (c position : Nat) (s : State) : Flow s (issueMember c position s) := by
  simp only [issueMember]
  repeat' split
  all_goals first
    | exact .refl s
    | exact flow_recordOutcome _ _ _ _ s
    | exact flow_claimSlot _ _ _ _ _ s

theorem flow_issuePass (c : Nat) (s : State) : Flow s (issuePass c s) := by
  simp only [issuePass]
  split
  · exact .refl s
  · exact (Flow.foldl (fun t i => issueMember c i t) (fun t i => flow_issueMember c i t) _ s).trans
      (flow_closeIfDone c _)

theorem flow_continueIssue (c position : Nat) (s : State)
    (open_ : ∀ x, s.contexts.find c = some x → s.slotOpen x.link = true) : Flow s (continueIssue c position s).1 := by
  simp only [continueIssue]
  repeat' split
  all_goals first
    | exact .refl s
    | exact flow_recordOutcome _ _ _ _ s
    | exact flow_setMember _ _ _ s
    | exact flow_placeMember _ _ _ _ _ s (open_ _ (by assumption))

theorem flow_handOutOne (acc : State × List Nat) (w : Nat × Nat) : Flow acc.1 (handOutOne acc w).1 := by
  obtain ⟨s, passes⟩ := acc
  simp only [handOutOne]
  split
  · split
    · exact .refl s
    · next x hx =>
      split
      · next ho =>
        refine (Flow.sparse s s.records s.reservations s.contexts (s.waiting.erase w)).trans ?_
        refine flow_continueIssue _ _ _ fun y hy => ?_
        have : y = x := by
          have hy' : s.contexts.find w.1 = some y := hy
          rw [hx] at hy'
          exact (Option.some.inj hy').symm
        rw [this]
        exact ho
      · exact .refl s
  · exact .refl s

theorem flow_handOut (s : State) : Flow s (handOut s) := by
  have h : ∀ (ws : List (Nat × Nat)) (acc : State × List Nat), Flow acc.1 (ws.foldl handOutOne acc).1 := by
    intro ws
    induction ws with
    | nil => exact fun acc => .refl acc.1
    | cons w rest ih => exact fun acc => (flow_handOutOne acc w).trans (ih _)
  exact (h s.waiting (s, [])).trans
    (Flow.foldl (fun u c => issuePass c u) (fun u c => flow_issuePass c u) _ _)

theorem flow_freeSlot (slot : Nat) (s : State) : Flow s (freeSlot slot s) :=
  (flow_dropSlot slot s).trans (flow_handOut _)

/-! ### Delivery, removal, quarantine entry -/

theorem flow_reportHealth (t : Txn) (o : Status) (s : State) : Flow s (reportHealth t o s) := by
  simp only [reportHealth]
  split
  · exact flow_setRuntime _ _ s
  · exact .refl s

theorem flow_deliverTo (t : Txn) (o : Status) (d : List Byte) (s : State) : Flow s (deliverTo t o d s) := by
  simp only [deliverTo]
  split
  · exact flow_respond _ _ _ _ s
  · split
    · exact (flow_respond _ _ _ _ s).trans (flow_raise _ _ _ _)
    · exact flow_respond _ _ _ _ s
  · exact (flow_recordOutcome _ _ _ _ s).trans (flow_issuePass _ _)

theorem flow_deliver (t : Txn) (o : Status) (d : List Byte) (s : State) : Flow s (deliver t o d s) := by
  simp only [deliver]
  split
  · split
    · exact flow_raiseBoth _ _ s
    · exact .refl s
  · exact flow_deliverTo t o d s

theorem flow_unprobe (h : Handle) (s : State) : Flow s (unprobe h s) := by
  simp only [unprobe]
  split
  · exact flow_setRuntime _ _ s
  · exact .refl s

theorem flow_removeQueued (t : Txn) (o : Option Status) (s : State) : Flow s (removeQueued t o s) := by
  simp only [removeQueued]
  have h : Flow s (freeSlot t.slot (if t.origin.isProbe then unprobe t.handle s else s)) := by
    split
    · exact (flow_unprobe _ s).trans (flow_freeSlot _ _)
    · exact flow_freeSlot _ s
  split
  · exact h.trans (flow_deliver _ _ _ _)
  · exact h

theorem flow_removeAll (ts : List Txn) (o : Option Status) (s : State) : Flow s (removeAll ts o s) := by
  refine Flow.foldl _ (fun u t => ?_) ts s
  split
  · exact flow_removeQueued t o u
  · exact .refl u

theorem flow_setQuarantined (h : Handle) (c : QuarantineCause) (s : State) : Flow s (setQuarantined h c s) := by
  simp only [setQuarantined]
  split
  · exact flow_setRuntime _ _ s
  · exact .refl s

theorem flow_quarantineEntry (h : Handle) (c : QuarantineCause) (s : State) : Flow s (quarantineEntry h c s) :=
  (((flow_setQuarantined h c s).trans (flow_removeAll _ _ _)).trans (flow_revokeReservation h _)).trans
    (flow_raiseBoth _ _ _)

/-! ### The commit point, and completion -/

theorem flow_recheck (acc : State × Nat) (slot : Nat) : Flow acc.1 (recheck acc slot).1 := by
  simp only [recheck]
  split
  · split
    · exact flow_quarantineEntry _ _ _
    · exact .refl _
  · exact .refl _

theorem flow_rechecks (slots : List Nat) (acc : State × Nat) : Flow acc.1 (slots.foldl recheck acc).1 := by
  induction slots generalizing acc with
  | nil => exact .refl acc.1
  | cons x rest ih => exact (flow_recheck acc x).trans (ih _)

theorem flow_commitPoint (s : State) : Flow s (commitPoint s) := by
  simp only [commitPoint]
  split
  · next holder g c hs =>
    have h1 : Flow s (installStaging g s) :=
      ⟨rfl, rfl, rfl, rfl, rfl, rfl, rfl, rfl, rfl, .inr ⟨by rw [hs]; rfl, rfl, rfl⟩, fun _ => .refl _, id⟩
    exact ((h1.trans (flow_rechecks _ (installStaging g s, 0))).trans (flow_respond _ _ _ _ _)).trans
      (flow_raise _ _ _ _)
  · exact .refl s

theorem flow_examine (hs : List Handle) (s : State) : Flow s (examine hs s) := by
  simp only [examine]
  split
  · exact flow_commitPoint s
  · exact .refl s

theorem flow_removeExamined (t : Txn) (o : Option Status) (s : State) : Flow s (removeExamined t o s) :=
  (flow_removeQueued t o s).trans (flow_examine _ _)

theorem flow_removeAllExamined (ts : List Txn) (o : Option Status) (s : State) :
    Flow s (removeAllExamined ts o s) := by
  refine Flow.foldl _ (fun u t => ?_) ts s
  split
  · exact flow_removeExamined t o u
  · exact .refl u

theorem flow_followUp (due : Bool) (t : Txn) (s : State) : Flow s (followUp due t s) := by
  simp only [followUp]
  split
  · exact (flow_quarantineEntry _ _ s).trans (flow_examine _ _)
  · exact flow_examine _ s

/-- A completion changes the engine of its port, and then only as Flow says (R59). -/
theorem flow_complete (p : Port) (o : Status) (d : List Byte) (s : State) :
    complete p o d s = s ∨ Flow (s.setEngine p ((s.engine p).afterOutcome o s.now)) (complete p o d s) := by
  simp only [complete]
  split
  · exact .inr ((((flow_reportHealth _ o _).trans (flow_freeSlot _ _)).trans (flow_deliver _ o d _)).trans
      (flow_followUp _ _ _))
  · exact .inl rfl

theorem flow_dropReservations (l : Link) (s : State) : Flow s (dropReservations l s) :=
  Flow.foldl _ (fun u h => (flow_removeReservation h u).trans (flow_examine _ _)) _ s

theorem flow_preempt (s : State) : Flow s (preempt s) :=
  (flow_removeAll _ _ s).trans (Flow.foldl _ (fun u h => flow_revokeReservation h u) _ _)

/-! ### The end of a command -/

/-- What a run of the arbiters changes: the engines, of which no configuration and no phase that is under way. -/
structure Settled (s t : State) : Prop where
  rest : ∃ es, t = { s with engines := es }
  config : ∀ p, (t.engine p).config = (s.engine p).config
  busy : ∀ p, (s.engine p).work.isSome = true → t.engine p = s.engine p

theorem Settled.refl (s : State) : Settled s s :=
  ⟨⟨s.engines, rfl⟩, fun _ => rfl, fun _ _ => rfl⟩

theorem Settled.trans {s t u : State} (h : Settled s t) (g : Settled t u) : Settled s u := by
  obtain ⟨a, ha⟩ := h.rest
  obtain ⟨b, hb⟩ := g.rest
  refine ⟨⟨b, by rw [hb, ha]⟩, fun p => (g.config p).trans (h.config p), fun p hp => ?_⟩
  have h1 := h.busy p hp
  rw [g.busy p (by rw [h1]; exact hp), h1]

theorem settled_runArbiter (p : Port) (s : State) : Settled s (runArbiter p s) := by
  simp only [runArbiter]
  split
  · next hi =>
    split
    · refine ⟨⟨_, rfl⟩, fun q => ?_, fun q hq => ?_⟩
      · rw [startWork, State.engine_setEngine]
        split
        · next e => rw [e]
        · rfl
      · rw [startWork, State.engine_setEngine, if_neg]
        intro e
        subst e
        simp only [Engine.idle, Bool.and_eq_true, Option.isNone_iff_eq_none] at hi
        rw [hi.2] at hq
        exact absurd hq (by decide)
    · exact .refl s
  · exact .refl s

theorem settled_settle (told : List Port) (before s : State) : Settled s (settle told before s) := by
  have h : ∀ (ps : List Port) (t : State), Settled t
      (ps.foldl (fun t p => if decide (p ∈ told) || arbiterDue before s p then runArbiter p t else t) t) := by
    intro ps
    induction ps with
    | nil => exact fun t => .refl t
    | cons p rest ih =>
      intro t
      refine Settled.trans ?_ (ih _)
      dsimp only
      split
      · exact settled_runArbiter p t
      · exact .refl t
  exact h Port.all s

/-- No arbiter runs after a command that left the pool, the engines and the containment of the ports as they were, on
ports whose engines are IDLE. -/
theorem arbiterDue_eq_false {s t : State} {p : Port} (hi : (s.engine p).idle = true) (hp : t.pool = s.pool)
    (he : t.engines = s.engines) (hu : (t.unit p).state = (s.unit p).state) : arbiterDue s t p = false := by
  have hq : t.queue p = s.queue p := by
    unfold State.queue State.isActive State.engine
    rw [hp, he]
  have hm : (t.engine p) = (s.engine p) := by simp only [State.engine, he]
  simp [arbiterDue, hi, hq, hu, hm]

/-- A command ends without a run where each engine is busy, or idle with nothing that R69 names having reached it. -/
theorem settle_eq_self {told : List Port} {before s : State}
    (h : ∀ p, (s.engine p).idle = false ∨ (p ∉ told ∧ arbiterDue before s p = false)) : settle told before s = s := by
  have hf : ∀ ps : List Port,
      ps.foldl (fun t p => if decide (p ∈ told) || arbiterDue before s p then runArbiter p t else t) s = s := by
    intro ps
    induction ps with
    | nil => rfl
    | cons p rest ih =>
      rw [List.foldl_cons]
      rcases h p with hp | ⟨hp, hd⟩
      · have : runArbiter p s = s := by simp [runArbiter, hp]
        rw [this, ite_self]
        exact ih
      · simp only [hp, hd, decide_false, Bool.or_false, Bool.false_eq_true, if_false]
        exact ih
  exact hf Port.all

/-- A command that leaves the pool, the engines and the containment states as they were runs no arbiter. -/
theorem settle_unchanged {s t : State} (hp : t.pool = s.pool) (he : t.engines = s.engines)
    (hu : ∀ p, (t.unit p).state = (s.unit p).state) : settle [] s t = t := by
  refine settle_eq_self fun p => ?_
  have hm : t.engine p = s.engine p := by simp only [State.engine, he]
  cases hi : (s.engine p).idle
  · exact .inl (by rw [hm, hi])
  · exact .inr ⟨by simp, arbiterDue_eq_false hi hp he (hu p)⟩

/-- The queue of a port depends on the pool and on its own engine. -/
theorem queue_congr {s t : State} {q : Port} (hp : t.pool = s.pool) (he : t.engine q = s.engine q) :
    t.queue q = s.queue q := by
  rw [State.queue, State.queue, hp]
  refine List.filter_congr fun x _ => ?_
  by_cases hx : x.snapshot.port = q
  · rw [State.isActive, State.isActive, hx, he]
  · simp [hx]

/-- A command that changes one engine, which then has work or is not enabled, runs no arbiter. -/
theorem settle_engine {s t : State} {p : Port} (hp : t.pool = s.pool) (he : ∀ q, q ≠ p → t.engine q = s.engine q)
    (hb : (t.engine p).idle = false) (hu : ∀ q, (t.unit q).state = (s.unit q).state) : settle [] s t = t := by
  refine settle_eq_self fun q => ?_
  by_cases hq : q = p
  · exact .inl (hq ▸ hb)
  · cases hi : (s.engine q).idle
    · exact .inl (by rw [he q hq, hi])
    · refine .inr ⟨by simp, ?_⟩
      simp [arbiterDue, hi, queue_congr hp (he q hq), hu q, he q hq]

/-- An engine that is not IDLE runs no arbiter (R68). -/
theorem runArbiter_busy {s : State} {p : Port} (h : (s.engine p).idle = false) : runArbiter p s = s := by
  simp [runArbiter, h]

end Sys2Proof.Machine
end

