-- ==== Sys2Proof/Laws/Containment.lean ====
section
/-! SUPPORT. Laws of the containment units: what a cause that joins or leaves changes, and that the units stay
consistent. -/
namespace Sys2Proof.Machine

theorem CauseSet.has_put (c : CauseSet) (x y : Cause) (b : Bool) :
    (c.put x b).has y = if y = x then b else c.has y := by
  cases x <;> cases y <;> rfl

theorem CauseSet.isEmpty_put_true (c : CauseSet) (x : Cause) : (c.put x true).isEmpty = false := by
  cases x <;> simp [CauseSet.put, CauseSet.isEmpty]

theorem CauseSet.isEmpty_iff (c : CauseSet) : c.isEmpty = true ↔ ∀ x, c.has x = false := by
  constructor
  · intro h x
    simp only [CauseSet.isEmpty, Bool.and_eq_true, Bool.not_eq_true'] at h
    cases x
    · exact h.1.1
    · exact h.1.2
    · exact h.2
  · intro h
    have h1 := h .stuck
    have h2 := h .arbitration
    have h3 := h .inhibit
    simp only [CauseSet.has] at h1 h2 h3
    simp [CauseSet.isEmpty, h1, h2, h3]

/-- What a change of one containment unit leaves as it was: everything but that unit and the attention sets. -/
structure Contained (p : Port) (s t : State) : Prop where
  rest : ∃ us ls, t = { s with units := us, links := ls }
  unit : ∀ q, q ≠ p → t.unit q = s.unit q
  links : ∀ l, LinkFlow (s.link l) (t.link l)

theorem Contained.refl (p : Port) (s : State) : Contained p s s :=
  ⟨⟨s.units, s.links, rfl⟩, fun _ _ => rfl, fun _ => .refl _⟩

theorem Contained.trans {p : Port} {s t u : State} (h : Contained p s t) (g : Contained p t u) : Contained p s u := by
  obtain ⟨a, b, e⟩ := h.rest
  obtain ⟨c, d, f⟩ := g.rest
  exact ⟨⟨c, d, by rw [f, e]⟩, fun q hq => (g.unit q hq).trans (h.unit q hq), fun l => (h.links l).trans (g.links l)⟩

theorem contained_setUnit (p : Port) (u : Containment) (s : State) : Contained p s (s.setUnit p u) :=
  ⟨⟨_, s.links, rfl⟩, fun q hq => by rw [State.unit_setUnit, if_neg hq], fun _ => .refl _⟩

theorem contained_raiseBoth (p : Port) (k : AttentionKind) (x : Subject) (s : State) :
    Contained p s (raiseBoth k x s) :=
  ⟨⟨s.units, _, rfl⟩, fun _ _ => rfl, (flow_raiseBoth k x s).links⟩

theorem contained_clearPort (p : Port) (s : State) : Contained p s (clearPort p s) :=
  (contained_setUnit p _ s).trans (contained_raiseBoth p _ _ _)

theorem contained_joinCause (p : Port) (c : Cause) (s : State) : Contained p s (joinCause p c s) := by
  simp only [joinCause]
  split
  · exact .refl p s
  · exact (contained_setUnit p _ s).trans (contained_raiseBoth p _ _ _)

theorem contained_recover (p : Port) (s : State) : Contained p s (recover p s) := by
  simp only [recover]
  split
  · exact contained_clearPort p s
  · exact contained_setUnit p _ s
  · exact contained_setUnit p _ s

theorem contained_leaveCause (p : Port) (c : Cause) (s : State) : Contained p s (leaveCause p c s) := by
  simp only [leaveCause]
  split
  · split
    · exact (contained_setUnit p _ s).trans (contained_recover p _)
    · exact contained_setUnit p _ s
  · exact .refl p s

theorem contained_reportStuck (p : Port) (s : State) : Contained p s (reportStuck p s) :=
  (contained_joinCause p _ s).trans (contained_setUnit p _ _)

theorem contained_joinArbitrationIfDue (p : Port) (s : State) : Contained p s (joinArbitrationIfDue p s) := by
  simp only [joinArbitrationIfDue]
  split
  · exact contained_joinCause p _ s
  · exact .refl p s

theorem contained_reportLoss (p : Port) (s : State) : Contained p s (reportLoss p s) :=
  (contained_setUnit p _ s).trans (contained_joinArbitrationIfDue p _)

/-! ### Consistency -/

theorem Containment.consistent_iff (u : Containment) : u.consistent ↔ (u.causes.isEmpty = false ↔ u.state = .held) :=
  Iff.rfl

/-- One unit is replaced by a consistent one. -/
theorem consistent_setUnit {p : Port} {u : Containment} {s : State} (h : s.containmentConsistent)
    (hu : u.consistent) : (s.setUnit p u).containmentConsistent := by
  intro q
  rw [State.unit_setUnit]
  split
  · exact hu
  · exact h q

theorem consistent_raiseBoth {k : AttentionKind} {x : Subject} {s : State} (h : s.containmentConsistent) :
    (raiseBoth k x s).containmentConsistent := h

/-- A cause that joins keeps the units consistent (R127). -/
theorem consistent_joinCause {p : Port} {c : Cause} {s : State} (h : s.containmentConsistent) :
    (joinCause p c s).containmentConsistent := by
  simp only [joinCause]
  split
  · exact h
  · refine consistent_raiseBoth (consistent_setUnit h ?_)
    rw [Containment.consistent_iff]
    simp [CauseSet.isEmpty_put_true]

/-- A cause that leaves keeps the units consistent (R127). -/
theorem consistent_leaveCause {p : Port} {c : Cause} {s : State} (h : s.containmentConsistent) :
    (leaveCause p c s).containmentConsistent := by
  simp only [leaveCause]
  split
  · next hc =>
    split
    · next he =>
      simp only [recover]
      split
      all_goals
        try refine consistent_raiseBoth ?_
        simp only [putContainment, State.unit_setUnit_self, State.setUnit_setUnit]
        refine consistent_setUnit h ?_
        rw [Containment.consistent_iff]
        simp [he]
    · next he =>
      refine consistent_setUnit h ?_
      have hs : (s.unit p).state = .held := by
        refine (h p).mp ?_
        cases hb : (s.unit p).causes.isEmpty
        · rfl
        · rw [(CauseSet.isEmpty_iff _).mp hb c] at hc
          exact absurd hc (by decide)
      rw [Containment.consistent_iff]
      simpa [hs] using he
  · exact h

end Sys2Proof.Machine
end

