-- ==== Sys2Proof/WellFormed.lean ====
section
/-! DEFINITION. Which commands the part's interfaces can carry at all. A command that is not well formed still has
a total meaning; these checks say what no exchange, bus or timer can bring. -/
namespace Sys2Proof

/-- A handle that a handle field can name in range (R3). -/
def Handle.wellFormed (h : Handle) : Bool :=
  decide (h.slot < Config.endpointSlots)

/-- A bus clear gives at most nine pulses (R95). -/
def ClearReading.wellFormed (r : ClearReading) : Bool :=
  decide (r.pulses.length ≤ 9)

/-- The parameter block of a request frame has 0 to 64 bytes (R183). -/
def blockWellFormed (ps : List Byte) : Bool :=
  decide (ps.length ≤ Config.parameterBytes)

/-- The check of each command. -/
def Instr.wellFormed : Instr → Bool
  | .put _ _ => true
  | .get _ _ => true
  | .badDirectionWindow d => decide (d ≠ Config.putByte ∧ d ≠ Config.getByte)
  | .addressOnlyWrite _ => true
  | .queryEndpoint _ _ ps => blockWellFormed ps
  | .lookup _ _ ps => blockWellFormed ps
  | .listEndpoints _ _ ps => blockWellFormed ps
  | .querySegment _ _ ps => blockWellFormed ps
  | .queryGroup _ _ ps => blockWellFormed ps
  | .queryDirectory _ _ ps => blockWellFormed ps
  | .openSession _ _ ps => blockWellFormed ps
  | .discardSession _ _ ps => blockWellFormed ps
  | .addEndpoint _ _ ps => blockWellFormed ps
  | .modifyEndpoint _ _ ps => blockWellFormed ps
  | .retireEndpoint _ _ ps => blockWellFormed ps
  | .addSegment _ _ ps => blockWellFormed ps
  | .retireSegment _ _ ps => blockWellFormed ps
  | .setGroup _ _ ps => blockWellFormed ps
  | .commit _ _ ps => blockWellFormed ps
  | .abortCommit _ _ ps => blockWellFormed ps
  | .sessionExpired => true
  | .commitDeadline => true
  | .transact _ _ ps => blockWellFormed ps
  | .release _ _ ps => blockWellFormed ps
  | .quarantine _ _ ps => blockWellFormed ps
  | .clearScore _ _ ps => blockWellFormed ps
  | .reserve _ _ ps => blockWellFormed ps
  | .unreserve _ _ ps => blockWellFormed ps
  | .reservationExpired h => h.wellFormed
  | .groupTransact _ _ ps => blockWellFormed ps
  | .contextDeadline c => decide (c < Config.groupContexts)
  | .configurePort _ _ ps => blockWellFormed ps
  | .queryPort _ _ ps => blockWellFormed ps
  | .clearBus _ _ ps => blockWellFormed ps
  | .resumePort _ _ ps => blockWellFormed ps
  | .identify _ _ ps => blockWellFormed ps
  | .configureLink _ _ ps => blockWellFormed ps
  | .configureDevice _ _ ps => blockWellFormed ps
  | .getAttention _ _ ps => blockWellFormed ps
  | .linkReset _ _ ps => blockWellFormed ps
  | .softReset _ _ ps => blockWellFormed ps
  | .rstnAssert => true
  | .rstnRelease _ => true
  | .phaseStart _ => true
  | .selectionWriteAck _ => true
  | .segmentFault _ => true
  | .recoveryPollAck _ => true
  | .recoveryPollNack _ => true
  | .transferComplete _ data => decide (data.length ≤ 32)
  | .addressNack _ => true
  | .dataNack _ => true
  | .arbitrationLoss _ => true
  | .stretchLimit _ => true
  | .sdaLowLimit _ => true
  | .busClearEnd _ r => r.wellFormed
  | .transactionDeadline n => decide (n < Config.transactionSlots)
  | .timedRecoveryExpiry h => h.wellFormed
  | .pollWaitEnd h => h.wellFormed
  | .pollWindowEnd h => h.wellFormed
  | .decayExpiry _ => true
  | .freeLineExpiry _ => true
  | .portLinesChange _ _ _ => true
  | .inhibitInputChange _ _ => true
  | .inhibitFilterExpiry _ => true
  | .holdoffExpiry _ => true
  | .inhibitAbort _ _ => true
  | .windowWithNoWholeByte => true

end Sys2Proof
end

