-- ==== Sys2Proof/Tests/Slice0.lean ====
section
/-! SUPPORT. Own tests: the commands that are not well formed, and, for each obligation with hypotheses, a state and
operands that meet them, with what the command then does. -/
namespace Sys2Proof.Tests
open Sys2Proof Sys2Proof.Machine

set_option Elab.async false

/-! ### Well-formedness -/

/-- A parameter block of so many zero bytes. -/
def zeros (n : Nat) : List Byte := List.replicate n 0

theorem test_illformed_requests :
    ([.queryEndpoint .a 0 (zeros 65), .lookup .a 0 (zeros 65), .listEndpoints .a 0 (zeros 65),
      .querySegment .a 0 (zeros 65), .queryGroup .a 0 (zeros 65), .queryDirectory .a 0 (zeros 65),
      .openSession .a 0 (zeros 65), .discardSession .a 0 (zeros 65), .addEndpoint .a 0 (zeros 65),
      .modifyEndpoint .a 0 (zeros 65), .retireEndpoint .a 0 (zeros 65), .addSegment .a 0 (zeros 65),
      .retireSegment .a 0 (zeros 65), .setGroup .a 0 (zeros 65), .commit .a 0 (zeros 65), .abortCommit .a 0 (zeros 65),
      .transact .a 0 (zeros 65)] : List Instr).all (fun c => !c.wellFormed) = true := by decide +kernel

theorem test_illformed_requests_too :
    ([.release .b 0 (zeros 65), .quarantine .b 0 (zeros 65), .clearScore .b 0 (zeros 65), .reserve .b 0 (zeros 65),
      .unreserve .b 0 (zeros 65), .groupTransact .b 0 (zeros 65), .configurePort .b 0 (zeros 65),
      .queryPort .b 0 (zeros 65), .clearBus .b 0 (zeros 65), .resumePort .b 0 (zeros 65), .identify .b 0 (zeros 65),
      .configureLink .b 0 (zeros 65), .configureDevice .b 0 (zeros 65), .getAttention .b 0 (zeros 65),
      .linkReset .b 0 (zeros 65), .softReset .b 0 (zeros 65)] : List Instr).all (fun c => !c.wellFormed) = true := by
  decide +kernel

theorem test_illformed_events :
    ([.badDirectionWindow 0xA5, .badDirectionWindow 0x5A, .reservationExpired ⟨128, 0⟩, .contextDeadline 4,
      .transferComplete .p0 (zeros 33), .busClearEnd .p0 ⟨true, false, List.replicate 10 .dataLow, true⟩,
      .transactionDeadline 48, .timedRecoveryExpiry ⟨128, 0⟩, .pollWaitEnd ⟨128, 0⟩,
      .pollWindowEnd ⟨128, 0⟩] : List Instr).all (fun c => !c.wellFormed) = true := by decide +kernel

theorem test_wellformed_at_the_bounds :
    ([.queryEndpoint .a 15 (zeros 64), .badDirectionWindow 0x00, .reservationExpired ⟨127, 15⟩, .contextDeadline 3,
      .transferComplete .p5 (zeros 32), .busClearEnd .p5 ⟨true, false, List.replicate 9 .dataLow, true⟩,
      .transactionDeadline 47, .timedRecoveryExpiry ⟨127, 15⟩] : List Instr).all Instr.wellFormed = true := by
  decide +kernel

/-! ### Small states -/

/-- A command answers this next state. -/
def nextIs (o : Host.Outcome State Fault Refusal) (t : State) : Bool :=
  match o with
  | .next u => decide (u = t)
  | _ => false

/-- The state that a command leaves. -/
def after (c : Instr) (s : State) : State :=
  match exec c s with
  | .next t => t
  | _ => s

def config0 : EndpointConfig :=
  { segment := 0, address := 0x50, indexWidth := 1, speed := .fast, accessA := .readWrite, accessB := .read,
    retryLimit := 2, recovery := .timed 5, weight := 2, threshold := 8, label := none }

def h0 : Handle := ⟨0, 0⟩

/-- A part with this one record, and port P0 enabled. -/
def withRecordOf (c : EndpointConfig) (rt : Runtime) : State :=
  { State.reset with
    records := [(0, { config := c, runtime := rt })]
    engines := State.reset.engines.set .p0 { Engine.reset with
      config := { PortConfig.reset with enable := true }, openChannel := .none } }

def live : State := withRecordOf config0 Runtime.fresh

def record0 : Record := { config := config0, runtime := Runtime.fresh }

/-- A WRITE of one byte by a TRANSACT of Link A with tag 3. -/
def txn0 : Txn :=
  { slot := 0, origin := .transact .a 3, attributed := .a, handle := h0, snapshot := live.snapshot config0,
    operation := .write, index := some 0x10, length := some 1, data := [0xAA], deadline := 1000000, epoch := 0,
    retries := 0, losses := 0, orphan := false }

/-- The part with a transaction in slot 0, its tag outstanding, and the engine of P0 at this work and phase. -/
def holding (t : Txn) (w : Option Work) (ph : Option Phase) (s : State) : State :=
  { s.setEngine .p0 { s.engine .p0 with work := w, phase := ph } with
    pool := [t]
    links := s.links.set .a { s.link .a with outstanding := [3] } }

def phase0 : Phase := { items := [.start, .stop], speed := .fast, stretch := 25 }

def sending : State := holding txn0 (some (.transferring 0)) (some phase0) live

def queued : State := holding txn0 none none live

/-- The staging view that repeats the committed one, held by Link A. -/
def opened : State := { live with session := .opened .a live.committed 50000000 }

/-- Its record's address changed in the staging view. -/
def rerouted : Configuration :=
  { live.committed with endpoints := [(0, { config0 with address := 0x51 })] }

def reroutedOpen : State := { live with session := .opened .a rerouted 50000000 }

def commit0 : CommitRecord := { mode := .wait, deadline := 10000000, tag := 9, affected := [h0] }

/-- A WAIT commit of Link A that waits for a reservation of Link B. -/
def armed : State :=
  { live with
    session := .armed .a rerouted commit0
    reservations := [⟨h0, .b, 70000⟩]
    links := live.links.set .a { live.link .a with outstanding := [9] } }

/-! ### The machine and the links -/

theorem test_front_command : step { live with pending := [.decayExpiry .p0, .sessionExpired] } =
    exec (.decayExpiry .p0) { live with pending := [.sessionExpired] } := rfl

theorem test_idle_step : nextIs (step live) { live with now := 1 } = true := by decide +kernel

theorem test_rstn_low : ({ live with rstnLow := true }.rstnLow = true) ∧
    ((after .rstnAssert live).link .a).attention = [] ∧
    nextIs (exec (.transact .a 1 []) { live with rstnLow := true }) { live with rstnLow := true } = true := by
  decide +kernel

theorem test_good_frame : requestOf 0x19 .a 5 [0] = some (.queryPort .a 5 [0]) ∧
    nextIs (exec (.put .a (requestFrame 0x19 5 [0])) live) (after (.queryPort .a 5 [0]) live) = true := by
  decide +kernel

theorem test_unknown_kind : requestOf 0x22 .b 5 [] = none ∧ live.accepts .b 5 [] ∧
    nextIs (exec (.put .b (requestFrame 0x22 5 [])) live) (live.answered .b 5 [] .badParameter []) = true := by
  decide +kernel

theorem test_no_frame : live.rstnLow = false ∧ (parseFrame [0x19, 5, 1, 0, 0]).isNone = true ∧
    nextIs (exec (.put .a [0x19, 5, 1, 0, 0]) live) (live.dropped .a (List.replicate 6 0xFF)) = true := by
  decide +kernel

theorem test_tag_in_use : (sending.link .a).tagInUse 3 = true ∧
    nextIs (exec (.queryPort .a 3 [0]) sending) (sending.dropped .a (putOut .a [0])) = true := by decide +kernel

theorem test_bad_direction :
    nextIs (exec (.badDirectionWindow 0x00) live) (live.dropped .a []) = true := by decide +kernel

/-- The check value of R183, and a frame written out byte by byte: kind, tag, length, block, CRC-8. -/
theorem test_frame_bytes : crc8 [0x00] = 0xF3 ∧ (requestFrame 0x19 5 [2]).take 4 = [0x19, 0x05, 0x01, 0x02] ∧
    parseFrame (requestFrame 0x19 5 [2]) = some (0x19, 5, [2]) := by decide +kernel

theorem test_longest_block : (zeros 64).length ≤ 64 ∧
    parseFrame (requestFrame 0x11 15 (zeros 64)) = some (0x11, 15, zeros 64) := by decide +kernel

theorem test_record_in_range : config0.segment ≤ 31 ∧ recordBlock? (recordBytes config0) = some config0 := by
  decide +kernel

theorem test_record_range_holds : config0.inRange := by
  refine ⟨by decide, by decide, by decide, by decide, by decide, fun w h => ?_, by decide, by decide, by decide,
    by decide⟩
  cases h
  decide

/-- A queue with one response of one byte. -/
def answering : State :=
  live.setLink .a { live.link .a with queue := [Response.mk 4 .ok [7]] }

theorem test_get_empty : (live.link .a).queue = [] ∧ ((after (.get .a (.whole 7)) live).link .a).sent =
    responseFrame { tag := 0, status := .empty, payload := [] } ++ [0xFF, 0xFF] := by decide +kernel

theorem test_get_head : ((after (.get .a (.whole 6)) answering).link .a).queue = [] ∧
    ((after (.get .a (.whole 5)) answering).link .a).queue = [Response.mk 4 .ok [7]] := by decide +kernel

theorem test_get_in_parts :
    ((after (.get .a .start) answering).link .a).getting.isSome = true ∧
      ((after (.get .a (.finish 6)) (after (.get .a .start) answering)).link .a).queue = [] := by decide +kernel

theorem test_malformed_block : (Instr.transact .a 1 []).request? = some (.a, 1, []) ∧
    (Instr.transact .a 1 []).blockReads = false ∧ live.accepts .a 1 [] ∧
    nextIs (exec (.transact .a 1 []) live) (live.answered .a 1 [] .badParameter []) = true := by decide +kernel

theorem test_get_attention : live.accepts .a 2 [] ∧
    ((after (.getAttention .a 2 []) live).link .a).queue = [Response.mk 2 .ok [0, 1, 0, 0, 0, 0, 1]] ∧
    ((after (.getAttention .a 2 []) live).link .a).attention = [] := by decide +kernel

theorem test_configure_link : configureLinkBlock? [0x07, 0xD0, 0x0F, 0xFF, 0] = some ⟨2000, 0xFFF, false⟩ ∧
    configureLinkBlock? [0x07, 0xD1, 0x0F, 0xFF, 0] = none := by decide +kernel

theorem test_configure_device : configureDeviceBlock? [0xEA, 0x60, 0x27, 0x10] = some (60000, 10000) ∧
    (after (.configureDevice .a 2 [0xEA, 0x60, 0x27, 0x10]) live).tSess = 60000 := by decide +kernel

/-! ### Queries and the session -/

theorem test_query_endpoint : live.accepts .a 2 [0, 0, 0] ∧ opened.accepts .a 2 [0, 0, 1] ∧
    queryEndpointBlock? [0, 0, 0] = some (h0, .committed) ∧
    queryEndpointBlock? [0, 0, 1] = some (h0, .staging) ∧ opened.view? .a .staging = some live.committed ∧
    ((after (.queryEndpoint .a 2 [0, 0, 0]) live).link .a).queue.map (fun r => r.payload.length) = [29] ∧
    ((after (.queryEndpoint .a 2 [0, 0, 1]) opened).link .a).queue =
      [Response.mk 2 .ok (recordBytes config0 ++ [1])] := by decide +kernel

theorem test_lookup : live.accepts .a 2 [0, 0, 0, 0x50, 0, 0] ∧ live.view? .a .committed = some live.committed ∧
    lookupBlock? [0, 0, 0, 0x50, 0, 0] = some (.committed, .location 0 0x50) ∧
    ((after (.lookup .a 2 [0, 0, 0, 0x50, 0, 0]) live).link .a).queue = [Response.mk 2 .ok [0, 0]] ∧
    (LookupKey.label 9).matches { config0 with label := some 9 } = true ∧
    (LookupKey.label 0).matches config0 = false := by
  decide +kernel

theorem test_list : live.accepts .a 2 [0, 127] ∧ listBlock? [0, 127] = some (.committed, 127) ∧
    ((after (.listEndpoints .a 2 [0, 0]) live).link .a).queue = [Response.mk 2 .ok [0, 0, 1, 0xFF, 0, 0]] := by
  decide +kernel

theorem test_query_segment : live.accepts .a 2 [31, 0] ∧ opened.accepts .a 2 [5, 1] ∧
    numberViewBlock? 31 [31, 0] = some (31, .committed) ∧
    numberViewBlock? 31 [5, 1] = some (5, .staging) ∧ numberViewBlock? 15 [15, 1] = some (15, .staging) ∧
    ((after (.querySegment .a 2 [31, 0]) live).link .a).queue = [Response.mk 2 .noSuchSegment []] ∧
    Port.ofNat? 5 = some .p5 ∧ segmentBytes [(6, ⟨.p5, 0x70, 7, .fast⟩)] 6 = some [1, 5, 0x70, 7, 1] ∧
    segmentBytes [(6, ⟨.p5, 0x70, 7, .fast⟩)] 7 = none := by
  decide +kernel

theorem test_query_directory : live.accepts .a 2 [] ∧ opened.accepts .b 2 [] ∧ armed.accepts .b 2 [] ∧
    ((after (.queryDirectory .a 2 []) live).link .a).queue =
      [Response.mk 2 .ok [0, 0, 1, 0, 0, 0, 0, 0, 0, 0, 0, 0, 0, 0, 0, 0, 0]] ∧
    ((after (.queryDirectory .b 2 []) opened).link .b).queue =
      [Response.mk 2 .ok [0, 0, 1, 0, 0, 0, 0, 1, 1, 1, 0x13, 0x88, 0, 0, 0, 0, 0]] ∧
    ((after (.queryDirectory .b 2 []) armed).link .b).queue =
      [Response.mk 2 .ok [0, 0, 1, 0, 0, 0, 0, 2, 1, 1, 0, 0, 0, 1, 1, 0x03, 0xE8]] := by decide +kernel

theorem test_session_free_and_held : live.session = .absent ∧ opened.session.holder? = some Link.b.other ∧
    opened.session ≠ .absent ∧ opened.accepts .b 1 [] ∧
    nextIs (exec (.openSession .b 1 []) opened) (opened.answered .b 1 [] .sessionHeld []) = true := by decide +kernel

theorem test_staging_query_access : (Instr.queryGroup .b 1 [0, 1]).namesStaging = true ∧
    live.accepts .b 1 [0, 1] ∧
    nextIs (exec (.queryGroup .b 1 [0, 1]) live) (live.answered .b 1 [0, 1] .noSession []) = true ∧
    nextIs (exec (.queryGroup .b 1 [0, 1]) opened) (opened.answered .b 1 [0, 1] .sessionHeld []) = true := by
  decide +kernel

theorem test_session_check : (Instr.retireEndpoint .a 1 [0, 0]).needsOpen = true ∧
    (Instr.retireEndpoint .a 1 [0, 0]).blockReads = true ∧ armed.accepts .a 1 [0, 0] ∧
    nextIs (exec (.retireEndpoint .a 1 [0, 0]) armed) (armed.answered .a 1 [0, 0] .stageFrozen []) = true ∧
    nextIs (exec (.abortCommit .a 1 []) opened) (opened.answered .a 1 [] .stageFrozen []) = true := by decide +kernel

/-- A record block for slot 1: the last address, the widest index. -/
def block1 : List Byte := [5, 0x77, 3, 2, 2, 2, 7, 2, 100, 8, 63, 1, 0, 0, 0, 9]

theorem test_add_endpoint : (recordBlock? block1).isSome = true ∧ opened.newSlot? live.committed = some 1 ∧
    opened.accepts .a 1 block1 ∧
    ((after (.addEndpoint .a 1 block1) opened).link .a).queue = [Response.mk 1 .ok [1, 0]] := by decide +kernel

theorem test_modify_and_retire : opened.accepts .a 1 ([0, 0] ++ block1) ∧ opened.accepts .a 1 [0, 0] ∧
    modifyBlock? ([0, 0] ++ block1) = (recordBlock? block1).map (fun c => (h0, c)) ∧
    handleBlock? [0, 0] = some h0 ∧
    ((after (.modifyEndpoint .a 1 ([0, 0] ++ block1)) opened).link .a).queue = [Response.mk 1 .ok [0, 0]] ∧
    ((after (.retireEndpoint .a 1 [0, 0]) opened).link .a).queue = [Response.mk 1 .ok [0]] := by decide +kernel

theorem test_segments_and_groups : opened.accepts .a 1 [5, 0x77, 7, 2] ∧ opened.accepts .a 1 [6] ∧
    opened.accepts .a 1 [15, 1, 0, 0] ∧ segmentBlock? [5, 0x77, 7, 2] = some ⟨.p5, 0x77, 7, .fastPlus⟩ ∧
    opened.newSegment? live.committed = some 6 ∧ retireSegmentBlock? [6] = some 6 ∧ retireSegmentBlock? [5] = none ∧
    setGroupBlock? [15, 1, 0, 0] = some (15, [h0]) ∧
    ((after (.addSegment .a 1 [5, 0x77, 7, 2]) opened).link .a).queue = [Response.mk 1 .ok [6]] ∧
    ((after (.retireSegment .a 1 [6]) opened).link .a).queue = [Response.mk 1 .noSuchSegment []] ∧
    ((after (.setGroup .a 1 [15, 1, 0, 0]) opened).link .a).queue = [Response.mk 1 .ok []] := by decide +kernel

/-- Group 2 has two members and group 5 one, which are retired. -/
def groups0 : Table (List Handle) := [(2, [⟨1, 0⟩, h0]), (5, [h0])]

theorem test_retired_from_groups : groups0.sorted = true ∧ groupsWithout h0 groups0 = [(2, [⟨1, 0⟩])] ∧
    ((groupsWithout h0 groups0).find 5).getD [] = [] := by decide +kernel

theorem test_stale_group_member : (∃ h ∈ [Handle.mk 1 0], opened.generation h.slot ≠ h.gen ∨
      live.committed.endpoints.find h.slot = none) ∧
    ((after (.setGroup .a 1 [15, 1, 1, 0]) opened).link .a).queue = [Response.mk 1 .staleHandle []] := by
  decide +kernel

theorem test_wait_commit_arms : reroutedOpen.accepts .a 9 [0, 0, 0, 0] ∧
    commitBlock? [0, 0, 0, 0] = some (.wait, none) ∧
    reroutedOpen.affectedBy rerouted = [h0] ∧
    (∃ h ∈ { reroutedOpen with reservations := armed.reservations }.affectedBy rerouted,
      ({ reroutedOpen with reservations := armed.reservations }.reservation? h).isSome = true) ∧
    (after (.commit .a 9 [0, 0, 0, 0]) { reroutedOpen with reservations := armed.reservations }).session =
      armed.session := by decide +kernel

theorem test_sorted_tables : reroutedOpen.tablesSorted := by
  refine ⟨by decide +kernel, by decide, by decide, by decide, by decide, fun g h => ?_, fun l => ?_⟩
  · cases h
    decide +kernel
  · cases l <;> decide +kernel

theorem test_owed_tags : reroutedOpen.tagsOwed := by
  refine ⟨fun l => ?_, by decide, by decide, fun t h => ?_, fun l => ?_⟩
  · cases l <;> decide +kernel
  · cases h
  · cases l <;> decide +kernel

theorem test_commit_point : reroutedOpen.accepts .a 9 [0, 0, 0, 0] ∧
    (∀ h ∈ reroutedOpen.affectedBy rerouted,
      reroutedOpen.inFlight h = 0 ∧ reroutedOpen.reservation? h = none) ∧
    (after (.commit .a 9 [0, 0, 0, 0]) reroutedOpen).epoch = 1 ∧
    ((after (.commit .a 9 [0, 0, 0, 0]) reroutedOpen).link .a).queue =
      [Response.mk 9 .ok [0, 1, 0, 0, 1, 0]] := by decide +kernel

/-- A staging view that lowers the threshold of its record, whose fault score is there, beside a new record. -/
def lowered : Configuration :=
  { live.committed with endpoints := [(0, { config0 with threshold := 5 }), (1, { config0 with address := 0x51 })] }

def loweredOpen : State :=
  { withRecordOf config0 { health := .active, score := 7, writeBusy := none } with
    session := .opened .a lowered 50000000 }

/-- A queued TRANSACT of Link A and a reservation of Link B on the record that the staging view reroutes. -/
def preempted : State := { holding txn0 none none reroutedOpen with reservations := armed.reservations }

theorem test_commit_point_rechecks :
    (after (.commit .a 9 [0, 0, 0, 0]) loweredOpen).records.find 0 =
      some { config := { config0 with threshold := 5 },
             runtime := { health := .quarantined .budget, score := 7, writeBusy := none } } ∧
    (after (.commit .a 9 [0, 0, 0, 0]) loweredOpen).records.find 0 =
      some (loweredOpen.recordAfterCommit 0 { config0 with threshold := 5 }) ∧
    (after (.commit .a 9 [0, 0, 0, 0]) loweredOpen).records.find 1 =
      some (loweredOpen.recordAfterCommit 1 { config0 with address := 0x51 }) ∧
    ((after (.commit .a 9 [0, 0, 0, 0]) loweredOpen).link .a).queue = [Response.mk 9 .ok [0, 1, 1, 0, 0, 1]] ∧
    loweredOpen.commitCounts lowered = [1, 0, 0, 1] := by decide +kernel

theorem test_preempt_commit : (holding txn0 none none reroutedOpen).accepts .a 9 [1, 1, 0, 10] ∧
    commitBlock? [1, 1, 0, 10] = some (.preempt, some 10) ∧
    (after (.commit .a 9 [1, 1, 0, 10]) preempted).epoch = 1 ∧
    Response.mk 3 .cancelledCommit (txn0.result []) ∈
      ((after (.commit .a 9 [1, 1, 0, 10]) preempted).link .a).queue ∧
    ((after (.commit .a 9 [1, 1, 0, 10]) preempted).link .b).attention.find 11 = some ⟨.handle h0, 1⟩ ∧
    (after (.commit .a 9 [1, 1, 0, 10]) { preempted with engines := sending.engines }).session =
      .armed .a rerouted { mode := .preempt, deadline := 100000, tag := 9, affected := [h0] } ∧
    (after (.commit .a 9 [1, 1, 0, 10]) { preempted with engines := sending.engines }).reservations = [] := by
  decide +kernel

theorem test_preempted_tags : preempted.tagsOwed := by
  refine ⟨fun l => ?_, by decide +kernel, by decide, fun t h l => ?_, fun l => ?_⟩
  · cases l <;> decide +kernel
  · simp only [preempted, holding, List.mem_singleton] at h
    subst h
    cases l <;> decide +kernel
  · cases l <;> decide +kernel

theorem test_armed_commit_fails : armed.accepts .a 1 [] ∧ commit0.tag ∈ (armed.link .a).outstanding ∧
    ((after (.abortCommit .a 1 []) armed).link .a).queue =
      [Response.mk 9 .commitAborted [], Response.mk 1 .ok []] ∧
    ((after .commitDeadline armed).link .a).queue = [Response.mk 9 .commitDeadline []] ∧
    (after .sessionExpired opened).session = .absent := by decide +kernel

theorem test_no_session_timer : (∀ g e, live.session ≠ .opened .a g e) ∧
    nextIs (exec .sessionExpired live) live = true ∧ nextIs (exec .commitDeadline opened) opened = true := by
  refine ⟨fun _ _ h => ?_, by decide +kernel, by decide +kernel⟩
  cases h

/-! ### Transactions and health -/

/-- A WRITE of one byte to the record, its index the largest that fits, with the longest deadline. -/
def writeBlock : List Byte := [0, 0, 1, 3, 0, 0, 0xFF, 1, 0x07, 0xD0, 0xAA]

theorem test_transact : live.accepts .a 3 writeBlock ∧
    transactBlock? writeBlock = some (h0, ⟨.write, some 0xFF, some 1, [0xAA], some 2000⟩) ∧
    live.freeSlot? = some 0 ∧ ((after (.transact .a 3 writeBlock) live).engine .p0).work = some (.transferring 0) ∧
    ((after (.transact .b 3 writeBlock) live).link .b).queue = [Response.mk 3 .accessDenied []] := by decide +kernel

theorem test_transaction_deadline : queued.txn? 0 = some txn0 ∧ queued.isActive txn0 = false ∧
    txn0.answers .a 3 ∧ queued.quiet h0 ∧ sending.isActive txn0 = true ∧
    nextIs (exec (.transactionDeadline 0) sending) sending = true ∧
    ((after (.transactionDeadline 0) queued).link .a).queue =
      [Response.mk 3 .deadlineExpired [0, 0, 0, 0]] := by decide +kernel

/-- A context of Link A with tag 3 whose one member is in this condition. -/
def context0 (m : MemberCondition) : Context :=
  { link := .a, tag := 3, group := 0, operation := .write, index := some 0x10, length := some 1, data := [0xAA],
    policy := .continueAll, deadline := 2000000, epoch := 0, members := [⟨h0, m⟩], stopFlag := false }

def member0 : Txn := { txn0 with origin := .member 0 0 }

/-- The part with that context. -/
def grouped (m : MemberCondition) (s : State) : State :=
  { s with contexts := [(0, context0 m)], links := s.links.set .a { s.link .a with outstanding := [3] } }

theorem test_context_deadline :
    ((grouped (.inFlight .p0) (holding member0 (some (.transferring 0)) (some phase0) live)).isActive member0 = true) ∧
    ((after (.contextDeadline 0) (grouped (.inFlight .p0)
      (holding member0 (some (.transferring 0)) (some phase0) live))).contexts.find 0).isSome = true ∧
    (after (.contextDeadline 0) (grouped (.waiting .p0) live)).contexts = [] ∧
    ((after (.contextDeadline 0) (grouped (.waiting .p0) live)).link .a).queue =
      [Response.mk 3 .ok [0, 0, 1, 0, 0, 0, 0, 1, 0, 0, 0, 0x46, 0]] := by decide +kernel

theorem test_orphan_deadline : { queued with pool := [{ txn0 with orphan := true }] }.txn? 0 =
      some { txn0 with orphan := true } ∧
    nextIs (exec (.transactionDeadline 0) { queued with pool := [{ txn0 with orphan := true }] })
      { queued with pool := [], now := 1000000 } = true := by decide +kernel

/-- A member waits for the slot that a queued transaction holds. -/
def handing : State :=
  { grouped (.waiting .p0) queued with
    contexts := [(0, { context0 (.waiting .p0) with tag := 5 })]
    waiting := [(0, 0)] }

theorem test_hand_out : handing.txn? 0 = some txn0 ∧ handing.isActive txn0 = false ∧
    handing.commitPending h0 = false ∧ handing.record? h0 = some record0 ∧
    memberRefusal handing (context0 (.waiting .p0)) h0 record0 = none ∧
    { handing with pool := [], now := 1000000 }.freeSlot? = some 0 ∧
    { handing with pool := [], now := 1000000 }.attributed .a < 32 ∧
    (after (.transactionDeadline 0) handing).pool = [{ txn0 with origin := .member 0 0, deadline := 2000000 }] ∧
    (after (.transactionDeadline 0) handing).waiting = [] ∧
    (after (.transactionDeadline 0) handing).contexts = [(0, { context0 (.inFlight .p0) with tag := 5 })] ∧
    ((after (.transactionDeadline 0) handing).link .a).queue = [Response.mk 3 .deadlineExpired [0, 0, 0, 0]] := by
  decide +kernel

/-- A PENDING member whose issue comes after the instant of its deadline is reported, and takes no slot. -/
theorem test_late_issue :
    ((issuePass 0 { grouped .pending live with now := 2000001 }).link .a).queue =
      [Response.mk 3 .ok [0, 0, 1, 0, 0, 0, 0, 1, 0, 0, 0, 0x46, 0]] ∧
    (issuePass 0 { grouped .pending live with now := 2000001 }).pool = [] ∧
    (issuePass 0 { grouped .pending live with now := 1999999 }).pool =
      [{ txn0 with origin := .member 0 0, deadline := 2000000 }] := by decide +kernel

def quarantined0 : State := withRecordOf config0 { health := .quarantined .budget, score := 8, writeBusy := none }

theorem test_release : quarantined0.accepts .a 3 [0, 0] ∧ handleBlock? [0, 0] = some h0 ∧
    (((after (.release .a 3 [0, 0]) quarantined0).record? h0).map fun r => r.runtime.health) =
      some (.probing .budget) := by decide +kernel

def probe0 : Txn := { txn0 with origin := .releaseProbe .a 3, operation := .probe }

/-- A release probe in its transfer, with so many retries used. -/
def probing (retries : Nat) : State :=
  holding { probe0 with retries := retries } (some (.transferring 0)) (some phase0)
    (withRecordOf config0 { health := .probing .budget, score := 8, writeBusy := none })

theorem test_release_probe : (probing 0).active .p0 probe0 (.transferring 0) ∧ (probing 0).quiet h0 ∧
    (((after (.transferComplete .p0 []) (probing 0)).record? h0).map fun r => r.runtime.health) = some .active ∧
    (((after (.addressNack .p0) (probing 2)).record? h0).map fun r => r.runtime.health) =
      some (.quarantined .budget) := by decide +kernel

/-- A release probe with this work in hand. -/
def probingAt (t : Txn) (w : Option Work) : State :=
  holding t w (some phase0) (withRecordOf config0 { health := .probing .budget, score := 8, writeBusy := none })

/-- The probe has ended with this response, and its record is QUARANTINED again. -/
def probeEnded (s : State) (o : Status) (payload : List Byte) : Bool :=
  decide (s.record? h0 = some ⟨config0, { health := .quarantined .budget, score := 8, writeBusy := none }⟩) &&
    decide ((s.link .a).queue = [Response.mk 3 o payload]) && decide (s.pool = [])

theorem test_release_probe_failures :
    (probing 0).activeTxn? .p0 = some probe0 ∧ 3 ∈ ((probing 0).link .a).outstanding ∧
    probeEnded (after (.arbitrationLoss .p0) (probingAt { probe0 with losses := 4 } (some (.transferring 0))))
      .arbitrationLost [0, 0, 0, 4] = true ∧
    probeEnded (after (.stretchLimit .p0) (probing 0)) .busStuck [0, 0, 0, 0] = true ∧
    probeEnded (after (.segmentFault .p0) (probingAt probe0 (some (.selecting 0 [])))) .segmentFault [0, 0, 0, 0]
      = true ∧
    probeEnded (after (.inhibitAbort .p0 false) ((probing 0).setEngine .p0 { (probing 0).engine .p0 with
      abortPending := true })) .abortedInhibit [0, 0, 0, 0] = true ∧
    probeEnded (after (.transactionDeadline 0) (probingAt probe0 none)) .deadlineExpired [0, 0, 0, 0] = true := by
  decide +kernel

/-- An orphan release probe, with so many retries used. -/
def orphanProbe (retries : Nat) : State :=
  probingAt { probe0 with orphan := true, retries := retries } (some (.transferring 0))

theorem test_orphan_probe :
    (((after (.transferComplete .p0 []) (orphanProbe 0)).record? h0).map fun r => r.runtime) = some Runtime.fresh ∧
    ((after (.transferComplete .p0 []) (orphanProbe 0)).link .a).queue = [] ∧
    ((after (.transferComplete .p0 []) (orphanProbe 0)).link .a).attention.find 6 = some ⟨.handle h0, 1⟩ ∧
    ((after (.transferComplete .p0 []) (orphanProbe 0)).link .b).attention.find 6 = some ⟨.handle h0, 1⟩ ∧
    (((after (.addressNack .p0) (orphanProbe 2)).record? h0).map fun r => r.runtime.health) =
      some (.quarantined .budget) ∧
    ((after (.addressNack .p0) (orphanProbe 2)).link .a).queue = [] := by decide +kernel

theorem test_quarantine_and_clear : live.commitPending h0 = false ∧ config0.readable .b = true ∧
    ((after (.quarantine .b 3 [0, 0]) queued).link .a).queue =
      [Response.mk 3 .cancelledQuarantine [0, 0, 0, 0]] ∧
    ((after (.quarantine .b 3 [0, 0]) queued).link .b).queue = [Response.mk 3 .ok [2, 0]] ∧
    ((after (.clearScore .b 3 [0, 0]) live).link .b).queue = [Response.mk 3 .ok [0]] := by decide +kernel

/-- The transaction in its transfer on a record with this fault score. -/
def scored (score retries : Nat) : State :=
  holding { txn0 with retries := retries } (some (.transferring 0)) (some phase0)
    (withRecordOf config0 { health := .active, score := score, writeBusy := none })

theorem test_threshold : (scored 6 0).active .p0 txn0 (.transferring 0) ∧ sendsBytes txn0 = true ∧
    config0.threshold ≤ min (6 + config0.weight) 63 ∧
    (((after (.dataNack .p0) (scored 6 0)).record? h0).map fun r => r.runtime) =
      some { health := .quarantined .budget, score := 8, writeBusy := none } ∧
    (((after (.addressNack .p0) (scored 6 2)).record? h0).map fun r => r.runtime.health) =
      some (.quarantined .budget) := by decide +kernel

theorem test_reserve : reserveBlock? [0, 0, 0x27, 0x10] = some (h0, 10000) ∧ live.accepts .b 3 [0, 0, 0x27, 0x10] ∧
    ((after (.reserve .b 3 [0, 0, 0x27, 0x10]) live).link .b).queue = [Response.mk 3 .ok [0, 0x27, 0x10]] ∧
    (after (.unreserve .b 4 [0, 0]) (after (.reserve .b 3 [0, 0, 0x27, 0x10]) live)).reservations = [] := by
  decide +kernel

theorem test_reservation_expires : armed.accepts .b 1 [0, 0] ∧ armed.reservation? h0 = some ⟨h0, .b, 70000⟩ ∧ h0 ∈ commit0.affected ∧
    (∀ j ∈ commit0.affected, armed.inFlight j = 0 ∧ (j = h0 ∨ armed.reservation? j = none)) ∧
    (after (.reservationExpired h0) armed).epoch = 1 ∧ (after (.unreserve .b 1 [0, 0]) armed).epoch = 1 ∧
    nextIs (exec (.reservationExpired h0) live) live = true := by decide +kernel

theorem test_armed_tables_and_tags : armed.tablesSorted ∧ armed.tagsOwed ∧ commit0.affected = armed.affectedBy rerouted ∧
    ((after (.reservationExpired h0) armed).link .a).queue = [Response.mk 9 .ok [0, 1, 0, 0, 1, 0]] ∧
    ((after (.reservationExpired h0) armed).link .b).attention.find 3 = some ⟨.none, 1⟩ ∧
    (after (.reservationExpired h0) armed).records.find 0 =
      some (armed.recordAfterCommit 0 { config0 with address := 0x51 }) := by
  refine ⟨⟨by decide +kernel, by decide, by decide, by decide, by decide, fun g h => ?_, fun l => ?_⟩,
    ⟨fun l => ?_, by decide, by decide, fun t h => ?_, fun l => ?_⟩, by decide +kernel, by decide +kernel,
    by decide +kernel, by decide +kernel⟩
  · cases h
    decide +kernel
  · cases l <;> decide +kernel
  · cases l <;> decide +kernel
  · cases h
  · cases l <;> decide +kernel

theorem test_last_transaction_of_a_commit :
    (∀ j ∈ commit0.affected, { armed with reservations := [], pool := [txn0] }.reservation? j = none ∧
      ∀ z ∈ { armed with reservations := [], pool := [txn0] }.pool, z.handle = j → z.slot = 0) ∧
    (after (.transactionDeadline 0) { armed with reservations := [], pool := [txn0] }).epoch = 1 := by
  decide +kernel

/-! ### Groups -/

/-- GROUP_TRANSACT of group 0: a WRITE of one byte, STOP_ON_FAIL. -/
def groupBlock : List Byte := [0, 1, 1, 3, 0, 0, 0x10, 1, 0x00, 0x64, 0xAA]

def withGroup (hs : List Handle) : State := { live with groups := [(0, hs)] }

theorem test_group_transact : (groupTransactBlock? groupBlock).isSome = true ∧
    (withGroup [h0]).accepts .a 3 groupBlock ∧ (withGroup [h0]).freeContext? = some 0 ∧
    ((after (.groupTransact .a 3 groupBlock) (withGroup [h0])).pool.map Txn.origin) = [.member 0 0] ∧
    ((after (.groupTransact .a 3 groupBlock) live).link .a).queue = [Response.mk 3 .emptyGroup []] ∧
    ((after (.groupTransact .b 3 groupBlock) (withGroup [h0])).link .b).queue =
      [Response.mk 3 .ok [0, 0, 1, 0, 0, 0, 0, 1, 0, 0, 0, 0x12, 0]] := by decide +kernel

theorem test_group_member_waits : { withGroup [h0] with pool := List.replicate 32 txn0 }.attributed .a = 32 ∧
    (after (.groupTransact .a 3 groupBlock) { withGroup [h0] with pool := List.replicate 32 txn0 }).waiting = [(0, 0)] ∧
    ((after (.groupTransact .a 3 groupBlock) { withGroup [h0] with pool := List.replicate 32 txn0 }).contexts.find 0).map
      Context.members = some [⟨h0, .waiting .p0⟩] := by decide +kernel

/-- Two records on one port: the second member is PENDING behind the marker of the first. -/
theorem test_group_stands : { withGroup [h0, ⟨1, 0⟩] with
      records := [(0, record0), (1, record0)] }.freeContext? = some 0 ∧
    ((after (.groupTransact .a 3 groupBlock) { withGroup [h0, ⟨1, 0⟩] with
      records := [(0, record0), (1, record0)] }).contexts.find 0).map Context.members =
        some [⟨h0, .inFlight .p0⟩, ⟨⟨1, 0⟩, .pending⟩] ∧
    ((after (.groupTransact .a 3 groupBlock) { withGroup [h0, ⟨1, 0⟩] with
      records := [(0, record0), (1, record0)] }).link .a).queue = [] := by decide +kernel

theorem test_group_without_context : { withGroup [h0] with
      contexts := [(0, context0 .pending), (1, context0 .pending), (2, context0 .pending),
        (3, context0 .pending)] }.freeContext? = none := by decide +kernel

theorem test_group_of_stale_members : (withGroup [⟨1, 0⟩, h0]).committed.group 0 ≠ [] ∧
    ((after (.groupTransact .a 3 groupBlock) (withGroup [⟨1, 0⟩, h0])).link .a).queue =
      [Response.mk 3 .ok [0, 0, 1, 0, 0, 0, 0, 2, 0, 1, 0, 0x11, 0, 0, 0, 0x54, 0]] := by decide +kernel

/-! ### Ports -/

/-- CONFIGURE_PORT of P0 with every field at a bound. -/
def portBlock0 (enable : Byte) : List Byte := [0, enable, 2, 0, 0x03, 0xE8, 15, 15, 100]

theorem test_configure_port : live.accepts .a 3 (portBlock0 1) ∧ (live.unit .p0).losses < 15 ∧
    queued.accepts .a 4 (portBlock0 0) ∧ (queued.engine .p0).config.enable = true ∧
    (configurePortBlock? (portBlock0 0)).map (fun x => x.2.enable) = some false ∧
    (configurePortBlock? (portBlock0 1)).map (fun x => x.2.tHold) = some 1000 ∧
    live.now < (live.unit .p0).inhSince + 15 * 10000 ∧ (live.unit .p0).inhHigh ≠ (live.unit .p0).causes.inhibit ∧
    (live.engine .p0).config.enable = true ∧
    ((after (.configurePort .a 3 (portBlock0 1)) State.reset).engine .p0).config.enable = true ∧
    (after (.configurePort .a 4 (portBlock0 0)) queued).queue .p0 = [] := by decide +kernel

/-- P0 with a containment unit. -/
def contained (u : Containment) (s : State) : State := s.setUnit .p0 u

theorem test_configure_port_joins_arbitration :
    nextIs (exec (.configurePort .a 3 (portBlock0 1)) (contained { Containment.reset true 0 with losses := 15 } live))
      (((raiseBoth .portHeld (.port .p0) (contained { Containment.reset true 0 with
          losses := 15, state := .held, causes := ⟨false, true, false⟩ } live)).setEngine .p0 { live.engine .p0 with
            config := ((configurePortBlock? (portBlock0 1)).map Prod.snd).getD PortConfig.reset }).answered
        .a 3 (portBlock0 1) .ok []) = true ∧
    ((after (.configurePort .a 3 (portBlock0 1)) (contained { Containment.reset true 0 with
      losses := 15, state := .held, causes := ⟨true, true, false⟩ } live)).link .a).attention.find 7 = none := by
  decide +kernel

theorem test_query_port : sending.accepts .b 3 [0] ∧ portBlock? [5] = some .p5 ∧ portBlock? [6] = none ∧
    ((after (.queryPort .b 3 [0]) sending).link .b).queue.map (fun r => r.payload.length) = [31] := by decide +kernel

theorem test_clear_bus : live.accepts .a 3 [0] ∧ ((after (.clearBus .a 3 [0]) live).engine .p0).stateNum = 5 ∧
    ((after (.busClearEnd .p0 ⟨true, false, [.dataLow, .dataHigh], true⟩) (after (.clearBus .a 3 [0]) live)).link
      .a).queue = [Response.mk 3 .ok []] ∧
    ((after (.busClearEnd .p0 ⟨false, false, [], false⟩) (after (.clearBus .a 3 [0]) live)).link
      .a).queue = [Response.mk 3 .busStuck []] ∧
    nextIs (exec (.busClearEnd .p0 ⟨true, true, [], true⟩) live) live = true := by decide +kernel

def awaiting : State := contained { Containment.reset true 0 with state := .awaitResume } live

theorem test_resume_port : awaiting.accepts .a 3 [0] ∧ portBlock? [0] = some .p0 ∧ portBlock? [] = none ∧
    ((after (.resumePort .a 3 [0]) awaiting).unit .p0).state = .clear ∧
    ((after (.resumePort .a 3 [0]) awaiting).link .b).attention.find 7 = none ∧
    ((after (.resumePort .a 3 [0]) awaiting).link .b).attention.find 8 = some ⟨.port .p0, 1⟩ ∧
    nextIs (exec (.resumePort .a 3 [0]) live) (live.answered .a 3 [0] .notHeld []) = true := by decide +kernel

theorem test_arbiter : (live.engine .p0).config.enable = true ∧ (live.engine .p0).work = none ∧
    (∃ t ∈ queued.queue .p0, queued.eligible t = true) ∧
    ((runArbiter .p0 queued).engine .p0).work = some (.transferring 0) ∧
    (∀ t ∈ live.queue .p0, live.eligible t = false) := by decide +kernel

theorem test_eligibility : queued.queue .p0 = [] ++ txn0 :: [] ∧ queued.eligible txn0 = true ∧
    { queued with pool := [txn0, { txn0 with slot := 1 }] }.queue .p0 = [txn0] ++ { txn0 with slot := 1 } :: [] ∧
    { queued with pool := [txn0, { txn0 with slot := 1 }] }.eligible { txn0 with slot := 1 } = false ∧
    (holding txn0 none none (withRecordOf config0 { health := .active, score := 0, writeBusy := some (.timed 9) })).eligible
      txn0 = false ∧
    (contained { Containment.reset true 0 with state := .awaitResume } queued).eligible txn0 = false := by
  decide +kernel

/-- A record behind a multiplexer, and its transaction in its selection. -/
def muxed : State :=
  { withRecordOf { config0 with segment := 6 } Runtime.fresh with segments := [(6, ⟨.p0, 0x70, 7, .fast⟩)] }

def muxTxn : Txn := { txn0 with snapshot := muxed.snapshot { config0 with segment := 6 } }

def write0 : SelectionWrite := { mux := 0x70, channel := some 7, opens := .channel 0x70 7 }

def selecting : State := holding muxTxn (some (.selecting 0 [write0])) (some phase0) muxed

theorem test_selection : selecting.active .p0 muxTxn (.selecting 0 [write0]) ∧ muxed.muxSet .p0 = [0x70] ∧
    selectionWrites .none muxTxn.snapshot.path (muxed.muxSet .p0) = [write0] ∧ write0.mask = 0x80 ∧
    ((after (.selectionWriteAck .p0) selecting).engine .p0).work = some (.transferring 0) ∧
    ((after (.segmentFault .p0) selecting).link .a).queue = [Response.mk 3 .segmentFault [0, 0, 0, 0]] ∧
    selecting.runs .p0 muxTxn .a 3 { config := { config0 with segment := 6 }, runtime := Runtime.fresh } ∧
    nextIs (exec (.selectionWriteAck .p0) sending) sending = true := by decide +kernel

/-- The work in hand waits to begin its phase. -/
def waitingToBegin (t : Txn) (w : Work) (s : State) : State := holding t (some w) none s

theorem test_phase_start :
    (waitingToBegin txn0 (.transferring 0) live).activeTxn? .p0 = some txn0 ∧
    (live.line .p0).scl = true ∧ (live.line .p0).sda = true ∧ (live.line .p0).otherMaster = false ∧
    transferShape txn0 = [.start, .send 0xA0, .send 0x10, .send 0xAA, .stop] ∧
    ((after (.phaseStart .p0) (waitingToBegin txn0 (.transferring 0) live)).engine .p0).phase =
      some { items := [.start, .send 0xA0, .send 0x10, .send 0xAA, .stop], speed := .fast, stretch := 25 } ∧
    ((after (.phaseStart .p0) (waitingToBegin muxTxn (.selecting 0 [write0]) muxed)).engine .p0).phase =
      some { items := [.start, .send 0xE0, .send 0x80, .stop], speed := .fast, stretch := 25 } ∧
    ((after (.phaseStart .p0) (waitingToBegin txn0 (.polling 0) live)).engine .p0).phase =
      some { items := [.start, .send 0xA0, .stop], speed := .fast, stretch := 25 } ∧
    nextIs (exec (.phaseStart .p0) sending) sending = true := by decide +kernel

theorem test_read_shapes :
    transferShape { txn0 with operation := .read, length := some 32 } =
      [.start, .send 0xA0, .send 0x10, .repeatedStart, .send 0xA1, .receive 32, .stop] ∧
    transferShape { txn0 with operation := .read, snapshot := { txn0.snapshot with indexWidth := 0 } } =
      [.start, .send 0xA1, .receive 1, .stop] ∧
    transferShape probe0 = [.start, .send 0xA0, .stop] := by decide +kernel

/-- A recovery poll in progress on an enabled port, at this time. -/
def pollingAt (now : Time) : State :=
  { holding txn0 (some (.polling 0)) (some phase0)
      (withRecordOf config0 { health := .active, score := 0, writeBusy := some (.poll 500000 none) }) with now := now }

def disabling (s : State) : State :=
  s.setEngine .p0 { s.engine .p0 with config := PortConfig.reset }

theorem test_recovery_polls : (pollingAt 0).active .p0 txn0 (.polling 0) ∧
    ((after (.recoveryPollAck .p0) (pollingAt 0)).writeBusy? h0) = none ∧
    ((after (.recoveryPollNack .p0) (pollingAt 0)).writeBusy? h0) = some (.poll 500000 (some 10000)) ∧
    ((after (.recoveryPollNack .p0) (pollingAt 0)).queue .p0) = [txn0] ∧
    ((after (.recoveryPollNack .p0) (pollingAt 1000000)).link .a).queue =
      [Response.mk 3 .deadlineExpired [0, 0, 0, 0]] ∧
    ((after (.recoveryPollNack .p0) (disabling (pollingAt 0))).link .a).queue =
      [Response.mk 3 .cancelledDisable [0, 0, 0, 0]] ∧
    nextIs (exec (.recoveryPollNack .p0) sending) sending = true := by decide +kernel

theorem test_transfer_outcomes : (scored 1 0).runs .p0 txn0 .a 3 { record0 with runtime := ⟨.active, 1, none⟩ } ∧
    min (1 + config0.weight) 63 < config0.threshold ∧
    (((after (.transferComplete .p0 []) (scored 1 0)).record? h0).map fun r => r.runtime) =
      some ⟨.active, 0, some (.timed 50000)⟩ ∧
    (((after (.dataNack .p0) (scored 1 0)).record? h0).map fun r => r.runtime) = some ⟨.active, 3, none⟩ ∧
    ((after (.addressNack .p0) (scored 1 2)).link .a).queue =
      [Response.mk 3 .addressNack [0, 0, 2, 0]] := by decide +kernel

/-- A TRANSACT of a link that has been reset ends with no response. -/
theorem test_orphan_outcome : (holding { txn0 with orphan := true } (some (.transferring 0)) (some phase0) live).endsTransfer
      .p0 { txn0 with orphan := true } record0 (.dataNack .p0) .dataNack [] (record0.withScore 2) ∧
    ((after (.dataNack .p0) (holding { txn0 with orphan := true } (some (.transferring 0)) (some phase0) live)).link
      .a).queue = [] ∧
    (((after (.dataNack .p0) (holding { txn0 with orphan := true } (some (.transferring 0)) (some phase0)
      live)).record? h0).map fun r => r.runtime.score) = some 2 := by
  refine ⟨.inr ⟨.inl ⟨rfl, by decide, rfl⟩, rfl, .inr (by decide), rfl⟩, by decide +kernel, by decide +kernel⟩

/-- A member in its transfer, with what other members its context has, under STOP_ON_FAIL. -/
def memberSending (others : List Member) : State :=
  { grouped (.inFlight .p0) (holding member0 (some (.transferring 0)) (some phase0) live) with
    contexts := [(0, { context0 (.inFlight .p0) with
      policy := .stopOnFail, members := ⟨h0, .inFlight .p0⟩ :: others })] }

theorem test_member_ends : (memberSending []).active .p0 member0 (.transferring 0) ∧ (memberSending []).quiet h0 ∧
    (memberSending []).record? h0 = some record0 ∧ member0.origin.isProbe = false ∧
    ((memberSending []).engine .p0).abortPending = false := by decide +kernel

theorem test_member_outcome : (memberSending []).endsTransfer .p0 member0 record0 (.transferComplete .p0 []) .ok []
      (record0.withWriteBusy (some (.timed 50000))) ∧
    ((after (.transferComplete .p0 []) (memberSending [])).link .a).queue =
      [Response.mk 3 .ok [0, 0, 1, 0, 0, 0, 0, 1, 1, 0, 0, 0, 0]] ∧
    (after (.transferComplete .p0 []) (memberSending [])).contexts = [] ∧
    ((after (.dataNack .p0) (memberSending [⟨⟨1, 0⟩, .pending⟩])).link .a).queue =
      [Response.mk 3 .ok [0, 0, 1, 0, 0, 0, 0, 2, 0, 0, 0, 0x41, 0, 1, 0, 0x54, 0]] := by
  refine ⟨.inl ⟨[], rfl, rfl, by decide, by decide⟩, by decide +kernel, by decide +kernel, by decide +kernel⟩

/-- The next member, of a second record of the port, is placed in the slot that the first has left. -/
def twoRecords (s : State) : State := { s with records := [(0, record0), (1, record0)] }

theorem test_next_member :
    memberRefusal (twoRecords live) (context0 .pending) ⟨1, 0⟩ record0 = none ∧
    ((after (.transferComplete .p0 []) (twoRecords (memberSending [⟨⟨1, 0⟩, .pending⟩]))).pool.map fun t =>
      (t.slot, t.origin, t.handle)) = [(0, .member 0 1, ⟨1, 0⟩)] ∧
    ((after (.transferComplete .p0 []) (twoRecords (memberSending [⟨⟨1, 0⟩, .pending⟩]))).contexts.find 0).map
      Context.members = some [⟨h0, .finished .ok []⟩, ⟨⟨1, 0⟩, .inFlight .p0⟩] := by decide +kernel

theorem test_retry_and_loss : ((after (.addressNack .p0) (scored 1 1)).pool.map Txn.retries) = [2] ∧
    ((after (.arbitrationLoss .p0) sending).pool.map Txn.losses) = [1] ∧
    ((after (.arbitrationLoss .p0) sending).unit .p0).losses = 1 ∧
    ((after (.arbitrationLoss .p0) (contained { Containment.reset true 0 with losses := 7 } sending)).unit .p0).state
      = .held ∧
    ((after (.arbitrationLoss .p0) (holding { txn0 with losses := 4 } (some (.transferring 0)) (some phase0)
      live)).link .a).queue = [Response.mk 3 .arbitrationLost [0, 0, 0, 4]] := by decide +kernel

/-- An abort that waits for the byte boundary. -/
def aborting (s : State) : State := s.setEngine .p0 { s.engine .p0 with abortPending := true }

theorem test_loss_under_an_abort : (aborting sending).runs .p0 txn0 .a 3 record0 ∧
    ((after (.arbitrationLoss .p0) (aborting sending)).link .a).queue =
      [Response.mk 3 .abortedInhibit [0, 0, 0, 1]] ∧
    ((after (.arbitrationLoss .p0) (aborting sending)).unit .p0).losses = 1 ∧
    ((after (.segmentFault .p0) (aborting selecting)).link .a).attention.find 9 = none := by decide +kernel

theorem test_bus_stuck : sending.runs .p0 txn0 .a 3 record0 ∧ (sending.unit .p0).causes.stuck = false ∧
    ((after (.stretchLimit .p0) sending).engine .p0).work = some (.clearing .automatic) ∧
    ((after (.stretchLimit .p0) sending).unit .p0).causes.stuck = true ∧
    ((after (.sdaLowLimit .p0) (waitingToBegin txn0 (.transferring 0) live)).link .a).queue =
      [Response.mk 3 .busStuck [0, 0, 0, 0]] ∧
    ((after (.stretchLimit .p0) (after (.stretchLimit .p0) sending)).engine .p0).work = none ∧
    nextIs (exec (.stretchLimit .p0) live) live = true ∧
    nextIs (exec (.sdaLowLimit .p0) sending) sending = true := by decide +kernel

/-- P0 waits to begin its transfer since 60, and its lines have come to these levels at these times; it is now 70. -/
def waitingOn (scl sda : Bool) (sclSince sdaSince : Time) : State :=
  { live.setLine .p0 ⟨scl, sda, sclSince, sdaSince, false⟩ with now := 70, pool := [txn0] }.setEngine .p0
    { live.engine .p0 with work := some (.transferring 0), since := 60 }

/-- The clock comes to the end of the hold: 25 ms, or 5 ms with the clock line high before a START, from the later of the
last change of the lines that are held and the engine's coming to its work. -/
theorem test_holds :
    (after (.stretchLimit .p0) { sending with now := 70 }).now = 250070 ∧
    (after (.stretchLimit .p0) { sending.setLine .p0 { sending.line .p0 with scl := false, sclSince := 40 } with
      now := 70 }).now = 250040 ∧
    (after (.sdaLowLimit .p0) (waitingOn true false 0 40)).now = 50060 ∧
    (after (.sdaLowLimit .p0) (waitingOn true false 65 40)).now = 50065 ∧
    (after (.sdaLowLimit .p0) (waitingOn false false 62 40)).now = 50070 ∧
    (after (.sdaLowLimit .p0) (waitingOn true true 0 40)).now = 50070 := by decide +kernel

/-- A zero write to another multiplexer runs at the class that the committed view gives as the write begins. -/
theorem test_speed_of_a_zero_write :
    muxed.writeSpeed .p0 none 0x70 = .fast ∧ { muxed with segments := [] }.writeSpeed .p0 none 0x70 = .standard := by
  decide +kernel

theorem test_stuck_again :
    ((after (.stretchLimit .p0) (contained { Containment.reset true 0 with
      state := .held, causes := ⟨true, false, false⟩, freeLine := .high 3 } sending)).unit .p0).freeLine = .low ∧
    ((after (.stretchLimit .p0) (contained { Containment.reset true 0 with
      state := .held, causes := ⟨true, false, false⟩, freeLine := .high 3 } sending)).link .a).attention.find 7 = none ∧
    ((after (.stretchLimit .p0) (after (.clearBus .a 3 [0]) live)).link .a).queue = [Response.mk 3 .busStuck []] := by
  decide +kernel

/-- The inhibit input of P0 at a level, with INHIBIT present or absent. -/
def inhibited (high present : Bool) (s : State) : State :=
  contained { Containment.reset high 0 with
    state := if present then .held else .clear, causes := ⟨false, false, present⟩ } s

theorem test_inhibit : (inhibited false false sending).runs .p0 txn0 .a 3 record0 ∧
    ((inhibited false false sending).unit .p0).inhHigh = false ∧
    ((after (.inhibitFilterExpiry .p0) (inhibited false false sending)).engine .p0).abortPending = true ∧
    ((after (.inhibitFilterExpiry .p0) (inhibited false false (waitingToBegin txn0 (.transferring 0) live))).link
      .a).queue = [Response.mk 3 .abortedInhibit [0, 0, 0, 0]] ∧
    ((after (.inhibitFilterExpiry .p0) (inhibited false false live)).unit .p0).state = .held ∧
    ((after (.inhibitFilterExpiry .p0) (inhibited true true live)).unit .p0).state = .awaitResume ∧
    nextIs (exec (.inhibitFilterExpiry .p0) live) live = true ∧
    ((after (.inhibitAbort .p0 true) (after (.inhibitFilterExpiry .p0) (inhibited false false selecting))).engine
      .p0).openChannel = .channel 0x70 7 ∧
    nextIs (exec (.inhibitAbort .p0 false) live) live = true := by decide +kernel

/-- A manual clear in progress, the lines seen high and the free-line measurement running. -/
def clearing : State :=
  contained { Containment.reset true 0 with state := .held, causes := ⟨true, false, false⟩, freeLine := .high 3 }
    { after (.clearBus .a 3 [0]) live with now := 9 }

/-- The levels of the lines and the measurement at the end of that clear. -/
def cleared (r : ClearReading) : Bool × Bool × FreeLine :=
  let t := after (.busClearEnd .p0 r) clearing
  ((t.line .p0).scl, (t.line .p0).sda, (t.unit .p0).freeLine)

theorem test_cleared_lines : cleared ⟨true, true, [], true⟩ = (true, true, .high 9) ∧
    cleared ⟨false, false, [], false⟩ = (false, true, .low) ∧
    cleared ⟨true, false, [.dataLow, .clockHeld], false⟩ = (false, false, .low) ∧
    cleared ⟨true, false, List.replicate 9 .dataLow, true⟩ = (true, false, .low) ∧
    cleared ⟨true, true, [], false⟩ = (true, false, .low) ∧
    nextIs (exec (.freeLineExpiry .p0) (after (.busClearEnd .p0 ⟨true, true, [], false⟩) clearing))
      (after (.busClearEnd .p0 ⟨true, true, [], false⟩) clearing) = true := by decide +kernel

/-- P0 with a recovery method. -/
def recovering (m : RecoveryMethod) (s : State) : State :=
  s.setEngine .p0 { s.engine .p0 with config := { (s.engine .p0).config with recovery := m } }

theorem test_inhibit_leaves :
    ((after (.inhibitFilterExpiry .p0) (recovering .auto (inhibited true true live))).unit .p0).state = .clear ∧
    ((after (.inhibitFilterExpiry .p0) (recovering .auto (inhibited true true live))).link .b).attention.find 8 =
      some ⟨.port .p0, 1⟩ ∧
    ((after (.inhibitFilterExpiry .p0) (recovering .holdoff (inhibited true true live))).unit .p0).state =
      .holdoff 540000 := by decide +kernel

/-! ### Timers, pins, resets and attention -/

/-- The record of the part with a write-busy form. -/
def busy (w : WriteBusy) : State := withRecordOf config0 { health := .active, score := 0, writeBusy := some w }

theorem test_recovery_expiries : live.record? ⟨1, 0⟩ = none ∧ (busy (.timed 50000)).record? h0 ≠ none ∧
    ((after (.timedRecoveryExpiry h0) (busy (.timed 50000))).writeBusy? h0) = none ∧
    ((after (.pollWaitEnd h0) (busy (.poll 50000 (some 20000)))).writeBusy? h0) = some (.poll 50000 none) ∧
    ((after (.pollWindowEnd h0) (busy (.poll 50000 (some 20000)))).writeBusy? h0) = none ∧
    nextIs (exec (.pollWaitEnd h0) (busy (.timed 50000))) (busy (.timed 50000)) = true := by decide +kernel

theorem test_containment_timers :
    ((after (.decayExpiry .p0) (contained { Containment.reset true 0 with losses := 2, decay := some 9 } live)).unit
      .p0).losses = 1 ∧
    ((after (.decayExpiry .p0) (contained { Containment.reset true 0 with losses := 1, decay := some 9 } live)).unit
      .p0).decay = none ∧
    ((after (.decayExpiry .p0) (contained { Containment.reset true 0 with
      losses := 1, decay := some 9, state := .held, causes := ⟨false, true, false⟩ } live)).unit .p0).state =
        .awaitResume ∧
    ((after (.freeLineExpiry .p0) (contained { Containment.reset true 0 with
      freeLine := .high 5, state := .held, causes := ⟨true, false, false⟩ } live)).unit .p0).state = .awaitResume ∧
    ((after (.holdoffExpiry .p0) (contained { Containment.reset true 0 with state := .holdoff 5 } live)).unit
      .p0).state = .clear ∧
    nextIs (exec (.decayExpiry .p0) live) live = true := by decide +kernel

/-- ARBITRATION at its last loss, or STUCK with the lines free, beside other causes. -/
def leaving (causes : CauseSet) (f : FreeLine) : State :=
  contained { Containment.reset true 0 with
    losses := 1, decay := some 9, state := if causes.isEmpty then .clear else .held, causes := causes, freeLine := f } live

theorem test_causes_leave :
    ((after (.decayExpiry .p0) (recovering .auto (leaving ⟨false, true, false⟩ .stopped))).unit .p0).state = .clear ∧
    ((after (.decayExpiry .p0) (recovering .holdoff (leaving ⟨false, true, false⟩ .stopped))).unit .p0).state =
      .holdoff 500009 ∧
    ((after (.decayExpiry .p0) (leaving ⟨true, true, false⟩ .stopped)).unit .p0).state = .held ∧
    ((after (.decayExpiry .p0) (leaving ⟨true, true, false⟩ .stopped)).unit .p0).causes = ⟨true, false, false⟩ ∧
    ((after (.freeLineExpiry .p0) (recovering .auto (leaving ⟨true, false, false⟩ (.high 5)))).unit .p0).state = .clear ∧
    ((after (.freeLineExpiry .p0) (recovering .holdoff (leaving ⟨true, false, false⟩ (.high 5)))).unit .p0).state =
      .holdoff 510005 ∧
    ((after (.freeLineExpiry .p0) (leaving ⟨true, false, true⟩ (.high 5))).unit .p0).state = .held ∧
    ((after (.freeLineExpiry .p0) (leaving ⟨true, false, true⟩ (.high 5))).unit .p0).causes = ⟨false, false, true⟩ ∧
    ((after (.freeLineExpiry .p0) (leaving ⟨false, false, false⟩ (.high 5))).unit .p0).freeLine = .stopped ∧
    ((after (.freeLineExpiry .p0) (leaving ⟨false, false, false⟩ (.high 5))).unit .p0).state = .clear := by
  decide +kernel

theorem test_pins : ((after (.portLinesChange .p0 true false) live).line .p0).otherMaster = true ∧
    ((after (.portLinesChange .p0 true true) (contained { Containment.reset true 0 with freeLine := .low } live)).unit
      .p0).freeLine = .high 0 ∧
    ((after (.portLinesChange .p0 true false) { live with now := 7 }).line .p0).sdaSince = 7 ∧
    ((after (.portLinesChange .p0 true false) { live with now := 7 }).line .p0).sclSince = 0 ∧
    ((after (.portLinesChange .p0 true false) (after (.clearBus .a 3 [0]) live)).line .p0).otherMaster = false ∧
    ((after (.portLinesChange .p0 true true) (contained { Containment.reset true 0 with freeLine := .high 3 } live)).unit
      .p0).freeLine = .high 3 ∧
    ((after (.portLinesChange .p0 false true) (contained { Containment.reset true 0 with freeLine := .high 3 } live)).unit
      .p0).freeLine = .low ∧
    ((after (.portLinesChange .p0 true true) (live.setLine .p0 { live.line .p0 with sda := false, otherMaster := true })).line
      .p0).otherMaster = false ∧
    ((after (.inhibitInputChange .p0 false) { live with now := 7 }).unit .p0).inhSince = 7 := by decide +kernel

theorem test_link_reset : sending.rstnLow = false ∧ (zeros 64).length ≤ 64 ∧
    ((after (.linkReset .a 3 []) sending).link .a).queue = [Response.mk 3 .ok []] ∧
    ((after (.linkReset .a 3 []) sending).pool.map Txn.orphan) = [true] ∧
    (after (.linkReset .a 3 []) queued).pool = [] := by decide +kernel

theorem test_soft_reset : (after (.softReset .b 3 []) sending).pool = [] ∧
    ((after (.softReset .b 3 []) sending).link .a).attention = [(1, ⟨.none, 1⟩)] ∧
    (after (.softReset .b 3 []) sending).records = sending.records := by decide +kernel

theorem test_alert : live.alertLow .a = true ∧
    (after (.getAttention .a 2 []) live).alertLow .b = true ∧
    ((after (.getAttention .a 2 []) live).setLink .a { (live.link .a) with attention := [] }).alertLow .a = false := by
  decide +kernel

/-! ### Invariants -/

theorem test_invariants_of_a_busy_state : sending.tagsOwed ∧ sending.containmentConsistent ∧ sending.poolBounded := by
  refine ⟨⟨fun l => ?_, by decide +kernel, by decide, fun t h l => ?_, fun l => ?_⟩, fun p => ?_, by decide +kernel,
    by decide +kernel, fun l => ?_⟩
  · cases l <;> decide +kernel
  · simp only [sending, holding, List.mem_singleton] at h
    subst h
    cases l <;> decide +kernel
  · cases l <;> decide +kernel
  · cases p <;> (unfold Containment.consistent; decide +kernel)
  · cases l <;> decide +kernel

theorem lawful_of_one (c : EndpointConfig) (range : c.inRange) (present : segmentPresent [] c.segment = true)
    (f : Nat → BitVec 4) :
    ({ endpoints := [(0, c)], segments := [], groups := [] } : Configuration).lawful f := by
  refine ⟨fun e h => ?_, fun _ h => (nomatch h), fun _ h => (nomatch h)⟩
  cases h with
  | tail _ h => cases h
  | head =>
    refine ⟨(by decide : 0 < 128), range, present, fun d h n => ?_, fun _ h => (nomatch h)⟩
    cases h with
    | tail _ h => cases h
    | head => exact absurd rfl n

theorem test_lawful_views : live.committed.lawful live.generation ∧ rerouted.lawful reroutedOpen.generation := by
  have range := test_record_range_holds
  refine ⟨lawful_of_one _ range (by decide) _, lawful_of_one _ ?_ (by decide) _⟩
  exact ⟨range.1, by decide, by decide, range.2.2.2⟩

theorem test_directory_laws : reroutedOpen.directoryLaws ∧ armed.directoryLaws := by
  refine ⟨⟨test_lawful_views.1, fun g h => ?_, by unfold State.healthLaw; decide +kernel, fun l g k h => ?_⟩,
    ⟨test_lawful_views.1, fun g h => ?_, by unfold State.healthLaw; decide +kernel, fun l g k h => ?_⟩⟩
  · cases h
    exact test_lawful_views.2
  · cases h
  · cases h
    exact test_lawful_views.2
  · cases h
    decide +kernel

theorem test_directory_step : (∀ c rest, ({ reroutedOpen with pending := [.commit .a 9 [0, 0, 0, 0]] } : State).pending =
      c :: rest → c.isRstn = false) ∧
    nextIs (step { reroutedOpen with pending := [.commit .a 9 [0, 0, 0, 0]] })
      (after (.commit .a 9 [0, 0, 0, 0]) reroutedOpen) = true := by
  refine ⟨fun c rest h => ?_, by decide +kernel⟩
  cases h
  rfl

end Sys2Proof.Tests
end

section
/-! SUPPORT. The staging session: what OPEN_SESSION and DISCARD_SESSION make of a state in which an accepted request is
taken, and the obligation about both. -/
namespace Sys2Proof.Machine

/-- A request without parameters passes the parameter check (R187). -/
theorem withBlock_empty (l : Link) (tag : Tag) (take : Unit → State → State) (s : State) :
    withBlock l tag (emptyBlock? []) take s = take () s :=
  withBlock_some take s rfl

/-! ### The session replaced -/

/-- An accepted request sees the same state but for its link, so that a change of the session and the acceptance meet in
either order. -/
theorem accepted_withSession (x : Session) (l : Link) (tag : Tag) (ps : List Byte) (s : State) :
    { s.accepted l tag ps with session := x } = ({ s with session := x } : State).accepted l tag ps := rfl

/-- Whether a frame is accepted does not depend on the session (R169). -/
theorem accepts_withSession {l : Link} {tag : Tag} {ps : List Byte} {s : State} (x : Session)
    (h : s.accepts l tag ps) : ({ s with session := x } : State).accepts l tag ps := h

/-- A request that replaces the session and is answered at once does nothing else (R171). -/
theorem answer_withSession {l : Link} {tag : Tag} {ps : List Byte} {s : State} (x : Session) (o : Status)
    (h : s.accepts l tag ps) :
    answer l tag o { s.accepted l tag ps with session := x } =
      ({ s with session := x } : State).answered l tag ps o [] := by
  rw [accepted_withSession]
  exact answer_accepted o (accepts_withSession x h)

/-! ### The session check -/

/-- The holder in OPEN passes the session check (R28). -/
theorem withOpenSession_opened {l : Link} {tag : Tag} {g : Configuration} {expiry : Time} {s : State}
    (take : Configuration → State → State) (h : s.session = .opened l g expiry) :
    withOpenSession l tag take s = take g s := by
  simp only [withOpenSession, h, if_true]

/-! ### OPEN_SESSION -/

/-- In NONE a session is opened for the sender (R26). -/
theorem takeOpenSession_absent {l : Link} {tag : Tag} {s : State} (h : s.session = .absent) :
    takeOpenSession l tag [] s = answer l tag .ok (openSession l s) := by
  rw [takeOpenSession, withBlock_empty]
  simp only [h]

/-- In OPEN and in ARMED no second session is opened, whoever holds the first (R26). -/
theorem takeOpenSession_held {l : Link} {tag : Tag} {s : State} (h : s.session ≠ .absent) :
    takeOpenSession l tag [] s = answer l tag .sessionHeld s := by
  rw [takeOpenSession, withBlock_empty]
  cases hs : s.session with
  | absent => exact absurd hs h
  | opened _ _ _ => rfl
  | armed _ _ _ => rfl

/-- OPEN_SESSION in NONE: a copy of the committed configuration, and tSESS running (R26). -/
theorem exec_openSession_absent {l : Link} {tag : Tag} {s : State} (ha : s.accepts l tag [])
    (h : s.session = .absent) :
    exec (.openSession l tag []) s = .next (({ s with
      session := .opened l s.committed (s.after s.tSess) } : State).answered l tag [] .ok []) := by
  rw [exec_openSession ha, takeOpenSession_absent ((accepted_session ..).trans h)]
  exact congrArg Host.Outcome.next (answer_withSession _ .ok ha)

/-- OPEN_SESSION in OPEN and in ARMED (R26). -/
theorem exec_openSession_held {l : Link} {tag : Tag} {s : State} (ha : s.accepts l tag [])
    (h : s.session ≠ .absent) :
    exec (.openSession l tag []) s = .next (s.answered l tag [] .sessionHeld []) := by
  have h' : (s.accepted l tag []).session ≠ .absent := h
  rw [exec_openSession ha, takeOpenSession_held h', answer_accepted _ ha]

/-! ### DISCARD_SESSION -/

/-- The holder in OPEN drops its session (R36). -/
theorem takeDiscardSession_opened {l : Link} {tag : Tag} {g : Configuration} {expiry : Time} {s : State}
    (h : s.session = .opened l g expiry) : takeDiscardSession l tag [] s = answer l tag .ok (dropSession s) := by
  rw [takeDiscardSession, withBlock_empty, withOpenSession_opened _ h]

/-- DISCARD_SESSION from the holder in OPEN (R36). -/
theorem exec_discardSession_opened {l : Link} {tag : Tag} {g : Configuration} {expiry : Time} {s : State}
    (ha : s.accepts l tag []) (h : s.session = .opened l g expiry) :
    exec (.discardSession l tag []) s =
      .next (({ s with session := .absent } : State).answered l tag [] .ok []) := by
  rw [exec_discardSession ha, takeDiscardSession_opened ((accepted_session ..).trans h)]
  exact congrArg Host.Outcome.next (answer_withSession .absent .ok ha)

/-- Settles O16: an accepted request is taken in a state with the same session, and the answer is all that is added to
the replaced one. -/
theorem sessionOpensAndIsDiscarded : Obligations.SessionOpensAndIsDiscarded := by
  unfold Obligations.SessionOpensAndIsDiscarded
  refine ⟨fun l tag s ha => ⟨fun h => ?inNone, fun h => ?held⟩, fun l tag g expiry s ha h => ?discard⟩
  case inNone => exact exec_openSession_absent ha h
  case held => exact exec_openSession_held ha h
  case discard => exact exec_discardSession_opened ha h

end Sys2Proof.Machine
end

section
/-! SUPPORT. RESUME_PORT: a raise and the clearing of a port meet the acceptance of a request in either order, the
request by the containment state, and its obligation. -/
namespace Sys2Proof.Machine

/-! ### The end of the command of an accepted request -/

/-- The acceptance of a request reaches no engine: which arbiters are due at the end of the command is reckoned from the
state before it as well (R69). -/
theorem settle_accepted (told : List Port) (l : Link) (tag : Tag) (ps : List Byte) (s t : State) :
    settle told (s.accepted l tag ps) t = settle told s t := rfl

/-! ### A raise and the acceptance of a request -/

/-- A raise leaves the outstanding tags and the response queue of every link (R174). -/
theorem tagInUse_raise (l m : Link) (k : AttentionKind) (x : Subject) (tag : Tag) (s : State) :
    ((raise m k x s).link l).tagInUse tag = (s.link l).tagInUse tag := by
  rw [link_raise]
  split
  · next h => rw [h]; rfl
  · rfl

/-- A raise does not change which frames are accepted (R169). -/
theorem accepts_raise {l : Link} {tag : Tag} {ps : List Byte} {s : State} (m : Link) (k : AttentionKind) (x : Subject)
    (h : s.accepts l tag ps) : (raise m k x s).accepts l tag ps :=
  ⟨h.1, (tagInUse_raise l m k x tag s).trans h.2.1, h.2.2⟩

/-- A raise writes the attention set and an acceptance the tags, so that they meet in either order on every link. -/
theorem raise_accepted (m : Link) (k : AttentionKind) (x : Subject) (l : Link) (tag : Tag) (ps : List Byte)
    (s : State) : raise m k x (s.accepted l tag ps) = (raise m k x s).accepted l tag ps := by
  cases m <;> cases l <;> rfl

theorem accepts_raiseBoth {l : Link} {tag : Tag} {ps : List Byte} {s : State} (k : AttentionKind) (x : Subject)
    (h : s.accepts l tag ps) : (raiseBoth k x s).accepts l tag ps :=
  accepts_raise .b k x (accepts_raise .a k x h)

theorem raiseBoth_accepted (k : AttentionKind) (x : Subject) (l : Link) (tag : Tag) (ps : List Byte) (s : State) :
    raiseBoth k x (s.accepted l tag ps) = (raiseBoth k x s).accepted l tag ps := by
  simp only [raiseBoth, raise_accepted]

/-! ### The clearing of a port -/

/-- A cleared port: its unit in CLEAR, and PORT_CLEARED on both links (R130). -/
theorem clearPort_eq (p : Port) (s : State) :
    clearPort p s = raiseBoth .portCleared (.port p) (s.setUnit p { s.unit p with state := .clear }) := rfl

/-- Whether a frame is accepted does not depend on the containment of a port (R169). -/
theorem accepts_clearPort {l : Link} {tag : Tag} {ps : List Byte} {s : State} (p : Port) (h : s.accepts l tag ps) :
    (clearPort p s).accepts l tag ps :=
  accepts_raiseBoth (s := putContainment p .clear s) .portCleared (.port p) h

/-- A port is cleared for an accepted request as it is without one. -/
theorem clearPort_accepted (p : Port) (l : Link) (tag : Tag) (ps : List Byte) (s : State) :
    clearPort p (s.accepted l tag ps) = (clearPort p s).accepted l tag ps :=
  raiseBoth_accepted .portCleared (.port p) l tag ps (putContainment p .clear s)

/-- The clearing of a port in an accepted request, answered OK, with the arbiters that are due (R69, R130). -/
theorem settle_answer_clearPort {l : Link} {tag : Tag} {ps : List Byte} {s : State} (p : Port)
    (h : s.accepts l tag ps) :
    settle [] (s.accepted l tag ps) (answer l tag .ok (clearPort p (s.accepted l tag ps))) =
      settle [] s ((clearPort p s).answered l tag ps .ok []) := by
  rw [settle_accepted, clearPort_accepted, answer_accepted .ok (accepts_clearPort p h)]

/-! ### RESUME_PORT -/

/-- RESUME_PORT whose block names no port is refused (R187). -/
theorem exec_resumePort_malformed {l : Link} {tag : Tag} {ps : List Byte} {s : State} (ha : s.accepts l tag ps)
    (hb : portBlock? ps = none) :
    exec (.resumePort l tag ps) s = .next (s.answered l tag ps .badParameter []) := by
  rw [exec_resumePort ha, takeResumePort, withBlock_none _ _ hb, answer_accepted _ ha]

/-- RESUME_PORT of a port acts by the port's containment state (R129). -/
theorem exec_resumePort_port {l : Link} {tag : Tag} {ps : List Byte} {p : Port} {s : State}
    (ha : s.accepts l tag ps) (hb : portBlock? ps = some p) :
    exec (.resumePort l tag ps) s = .next (resumePort l tag p (s.accepted l tag ps)) := by
  rw [exec_resumePort ha, takeResumePort, withBlock_some _ _ hb]

/-- In CLEAR there is nothing to resume (R130). -/
theorem exec_resumePort_clear {l : Link} {tag : Tag} {ps : List Byte} {p : Port} {s : State}
    (ha : s.accepts l tag ps) (hb : portBlock? ps = some p) (h : (s.unit p).state = .clear) :
    exec (.resumePort l tag ps) s = .next (s.answered l tag ps .notHeld []) := by
  rw [exec_resumePort_port ha hb, ← answer_accepted _ ha]
  simp only [resumePort, accepted_unit, h]

/-- In HELD a cause is still present (R130). -/
theorem exec_resumePort_held {l : Link} {tag : Tag} {ps : List Byte} {p : Port} {s : State}
    (ha : s.accepts l tag ps) (hb : portBlock? ps = some p) (h : (s.unit p).state = .held) :
    exec (.resumePort l tag ps) s = .next (s.answered l tag ps .conditionPresent []) := by
  rw [exec_resumePort_port ha hb, ← answer_accepted _ ha]
  simp only [resumePort, accepted_unit, h]

/-- Where every cause has left and the port is not yet CLEAR, the request clears it (R130). -/
theorem resumePort_resumes {l : Link} {tag : Tag} {p : Port} {s : State} (hclear : (s.unit p).state ≠ .clear)
    (hheld : (s.unit p).state ≠ .held) :
    resumePort l tag p s = settle [] s (answer l tag .ok (clearPort p s)) := by
  cases h : (s.unit p).state with
  | clear => exact absurd h hclear
  | held => exact absurd h hheld
  | holdoff _ => simp only [resumePort, h]
  | awaitResume => simp only [resumePort, h]

/-- RESUME_PORT that is accepted in HOLDOFF or AWAIT_RESUME: the clearing and the acceptance change places (R130). -/
theorem exec_resumePort_resumes {l : Link} {tag : Tag} {ps : List Byte} {p : Port} {s : State}
    (ha : s.accepts l tag ps) (hb : portBlock? ps = some p) (hclear : (s.unit p).state ≠ .clear)
    (hheld : (s.unit p).state ≠ .held) :
    exec (.resumePort l tag ps) s = .next (settle [] s
      ((raiseBoth .portCleared (.port p) (s.setUnit p { s.unit p with state := .clear })).answered l tag ps .ok
        [])) := by
  rw [exec_resumePort_port ha hb, resumePort_resumes (s := s.accepted l tag ps) hclear hheld,
    settle_answer_clearPort p ha, clearPort_eq]

/-- Settles O38, by the parameter check and then by the containment state of the port. -/
theorem resumePort_byContainmentState : Obligations.ResumePort := by
  unfold Obligations.ResumePort
  refine ⟨fun l tag ps s ha hb => exec_resumePort_malformed ha hb, fun l tag ps p s ha hb => ?_⟩
  cases h : (s.unit p).state with
  | clear => exact exec_resumePort_clear ha hb h
  | held => exact exec_resumePort_held ha hb h
  | holdoff _ => exact exec_resumePort_resumes ha hb (by simp [h]) (by simp [h])
  | awaitResume => exact exec_resumePort_resumes ha hb (by simp [h]) (by simp [h])

end Sys2Proof.Machine
end

section
/-! SUPPORT. GET_ATTENTION: the emptying of the attention set meets the acceptance of the request in either order, the
answer is reckoned from the set before it, and the obligation. -/
namespace Sys2Proof.Machine

/-! ### The attention set emptied -/

/-- The set of one link becomes empty, and that link's interface is all that is written (R175). -/
theorem emptyAttention_eq (l : Link) (s : State) :
    emptyAttention l s = s.setLink l { s.link l with attention := [] } := rfl

/-- The emptying of an attention set does not change which frames are accepted (R169). -/
theorem accepts_emptyAttention {l : Link} {tag : Tag} {ps : List Byte} {s : State} (h : s.accepts l tag ps) :
    (emptyAttention l s).accepts l tag ps := by
  obtain ⟨hrstn, htag, hlength⟩ := h
  refine ⟨hrstn, ?_, hlength⟩
  rw [emptyAttention_eq, State.link_setLink_self]
  exact htag

/-- An acceptance writes the tags and the attention set stays, so that it meets the emptying in either order. -/
theorem emptyAttention_accepted (l : Link) (tag : Tag) (ps : List Byte) (s : State) :
    emptyAttention l (s.accepted l tag ps) = (emptyAttention l s).accepted l tag ps := by
  simp only [emptyAttention_eq, State.accepted, State.link_setLink_self, State.setLink_setLink]

/-! ### The answer -/

/-- The acceptance of a request leaves the frame error count and the attention set that GET_ATTENTION reports (R175). -/
theorem attentionPayload_accepted (l : Link) (tag : Tag) (ps : List Byte) (s : State) :
    ((s.accepted l tag ps).link l).attentionPayload = (s.link l).attentionPayload := by
  rw [State.accepted, State.link_setLink_self]
  rfl

/-- The answer is fixed by the bytes of each entry, in the order of the set (R175, R185). -/
theorem attentionPayload_of_entryBytes {f : Nat × AttentionEntry → List Byte} (i : LinkState)
    (h : ∀ e, attentionBytes e = f e) :
    i.attentionPayload = [byteOf i.frameErrors, byteOf i.attention.length] ++ i.attention.flatMap f := by
  rw [LinkState.attentionPayload, funext h]

/-! ### GET_ATTENTION -/

/-- Without parameters the request reports the set as it finds it and empties it (R175). -/
theorem takeGetAttention_empty (l : Link) (tag : Tag) (s : State) :
    takeGetAttention l tag [] s = respond l tag .ok (s.link l).attentionPayload (emptyAttention l s) :=
  withBlock_empty l tag _ s

/-- GET_ATTENTION that is accepted answers with the set before it and does nothing but empty it (R175). -/
theorem exec_getAttention_answered {l : Link} {tag : Tag} {s : State} (ha : s.accepts l tag []) :
    exec (.getAttention l tag []) s =
      .next ((emptyAttention l s).answered l tag [] .ok (s.link l).attentionPayload) := by
  rw [exec_getAttention ha, takeGetAttention_empty, attentionPayload_accepted, emptyAttention_accepted,
    respond_accepted _ _ (accepts_emptyAttention ha)]

/-- Settles O11: the answer and the emptied set are those of `exec_getAttention_answered`, and the bytes of an entry go
by the kind of its subject. -/
theorem getAttentionReportsAndEmpties : Obligations.GetAttentionReportsAndEmpties := by
  unfold Obligations.GetAttentionReportsAndEmpties
  intro l tag s ha
  rw [exec_getAttention_answered ha, emptyAttention_eq, attentionPayload_of_entryBytes]
  rintro ⟨kind, subject, count⟩
  cases subject with
  | none => rfl
  | handle h => rfl
  | segment n => rfl
  | port p => rfl

end Sys2Proof.Machine
end

section
/-! SUPPORT. What the operations below a completion keep, packaged once: a predicate of the state that the few changes
of the fan-out keep is kept by every pass and every hand-out (KeptFan), and one that the changes of a completion keep as
well is kept by every delivery, removal, quarantine entry and commit point (KeptEnd). -/
namespace Sys2Proof.Machine

/-! ### The fan-out -/

/-- A member may be placed on the record that the handle names: it is ACTIVE and no armed commit affects it (R155). -/
def State.admits (s : State) (h : Handle) : Prop :=
  (∃ r, s.record? h = some r ∧ r.runtime.health.isActive = true) ∧ s.commitPending h = false

theorem admits_of_memberRefusal {s : State} {x : Context} {h : Handle} {r : Record} (record : s.record? h = some r)
    (taken : memberRefusal s x h r = none) : s.admits h := by
  unfold memberRefusal at taken
  split_ifs at taken with _ _ inactive _ pending
  exact ⟨⟨r, record, Bool.eq_true_of_not_eq_false inactive⟩, Bool.eq_false_of_not_eq_true pending⟩

/-- A context of the link issues a member on a port that is enabled (R155). -/
def State.issues (s : State) (c : Nat) (l : Link) (cfg : EndpointConfig) : Prop :=
  (∃ x, s.contexts.find c = some x ∧ x.link = l) ∧ (s.engine (s.portOf cfg)).config.enable = true

theorem issues_of_memberRefusal {s : State} {c : Nat} {x : Context} {h : Handle} {r : Record}
    (found : s.contexts.find c = some x) (taken : memberRefusal s x h r = none) : s.issues c x.link r.config := by
  unfold memberRefusal at taken
  dsimp only at taken
  split_ifs at taken with _ _ _ _ _ port
  exact ⟨⟨x, found, rfl⟩, Bool.eq_true_of_not_eq_false fun disabled => port (.inl disabled)⟩

/-- The changes that the group fan-out is made of keep the predicate: the waiting list, a context that keeps its link
and its tag, the delivery of a report, and the placement of a member under its checks (R152 to R162). -/
structure KeptFan (P : State → Prop) : Prop where
  waiting : ∀ {s : State} (ws : List (Nat × Nat)), P s → P { s with waiting := ws }
  setContext : ∀ {s : State} {c : Nat} {x y : Context}, s.contexts.find c = some x → y.link = x.link →
    y.tag = x.tag → P s → P (s.setContext c y)
  closeContext : ∀ {s : State} {c : Nat} {x : Context} (d : List Byte), s.contexts.find c = some x → P s →
    P { respond x.link x.tag .ok d s with contexts := s.contexts.remove c }
  placeMember : ∀ {s : State} {l : Link} (c position : Nat) (h : Handle) (cfg : EndpointConfig) (op : Operation)
    (index : Option (BitVec 24)) (length : Option Nat) (data : List Byte) (deadline : Time),
    s.issues c l cfg → s.slotOpen l = true → s.admits h → P s → P
      (place (.member c position) l h cfg op index length data deadline s)

@[simp] theorem Context.setMember_link (x : Context) (i : Nat) (m : MemberCondition) :
    (x.setMember i m).link = x.link := rfl
@[simp] theorem Context.setMember_tag (x : Context) (i : Nat) (m : MemberCondition) :
    (x.setMember i m).tag = x.tag := rfl
@[simp] theorem Context.endUnissued_link (o : Status) (x : Context) : (x.endUnissued o).link = x.link := rfl
@[simp] theorem Context.endUnissued_tag (o : Status) (x : Context) : (x.endUnissued o).tag = x.tag := rfl

/-- A predicate that holds of the start and is kept by every step of a fold holds of its end. -/
theorem foldl_keeps {α β : Type} {Q : β → Prop} (f : β → α → β) (h : ∀ b a, Q b → Q (f b a)) (xs : List α) {b : β}
    (hb : Q b) : Q (xs.foldl f b) := by
  induction xs generalizing b with
  | nil => exact hb
  | cons a rest ih => exact ih (h b a hb)

namespace KeptFan

variable {P : State → Prop}

theorem setMember (k : KeptFan P) {s : State} (c i : Nat) (m : MemberCondition) (h : P s) :
    P (setMember c i m s) := by
  rw [Machine.setMember]
  split
  · next x hx => exact k.setContext hx rfl rfl h
  · exact h

theorem dropWaiting (k : KeptFan P) {s : State} (c : Nat) (h : P s) : P (dropWaiting c s) :=
  k.waiting _ h

theorem recordOutcome (k : KeptFan P) {s : State} (c i : Nat) (o : Status) (d : List Byte) (h : P s) :
    P (recordOutcome c i o d s) := by
  rw [Machine.recordOutcome]
  split
  · exact h
  · next x hx =>
    dsimp only
    split
    · exact k.dropWaiting c (k.setContext hx rfl rfl h)
    · exact k.setContext hx rfl rfl h

theorem closeIfDone (k : KeptFan P) {s : State} (c : Nat) (h : P s) : P (closeIfDone c s) := by
  rw [Machine.closeIfDone]
  split
  · exact h
  · next x hx =>
    split
    · exact k.closeContext _ hx h
    · exact h

theorem setStopFlag (k : KeptFan P) {s : State} (c : Nat) (flag : Bool) (h : P s) : P (setStopFlag c flag s) := by
  rw [Machine.setStopFlag]
  split
  · next x hx => exact k.setContext hx rfl rfl h
  · exact h

theorem placeInFlight (k : KeptFan P) {s : State} (c i : Nat) (x : Context) (h : Handle) (r : Record)
    (issued : s.issues c x.link r.config) (open_ : s.slotOpen x.link = true) (admitted : s.admits h) (hs : P s) :
      P (Machine.placeMember c i x h r s) :=
  k.setMember c i _ (k.placeMember c i h r.config x.operation _ x.length x.data x.deadline issued open_ admitted hs)

theorem claimSlot (k : KeptFan P) {s : State} (c i : Nat) (x : Context) (h : Handle) (r : Record)
    (issued : s.issues c x.link r.config) (admitted : s.admits h) (hs : P s) : P (claimSlot c i x h r s) := by
  rw [Machine.claimSlot]
  split
  · next ho =>
    split
    · exact k.recordOutcome c i _ _ hs
    · exact k.placeInFlight c i x h r issued ho admitted hs
  · exact k.waiting _ (k.setMember c i _ hs)

theorem issueMember (k : KeptFan P) {s : State} (c i : Nat) (h : P s) : P (issueMember c i s) := by
  rw [Machine.issueMember]
  repeat' split
  all_goals first
    | exact h
    | exact k.recordOutcome c i _ _ h
    | exact k.claimSlot c i _ _ _ (issues_of_memberRefusal (by assumption) (by assumption))
        (admits_of_memberRefusal (by assumption) (by assumption)) h

theorem issuePass (k : KeptFan P) {s : State} (c : Nat) (h : P s) : P (issuePass c s) := by
  rw [Machine.issuePass]
  split
  · exact h
  · exact k.closeIfDone c (foldl_keeps _ (fun t i ht => k.issueMember c i ht) _ h)

theorem continueIssue (k : KeptFan P) {s : State} (c i : Nat)
    (open_ : ∀ x, s.contexts.find c = some x → s.slotOpen x.link = true) (h : P s) :
    P (continueIssue c i s).1 := by
  rw [Machine.continueIssue]
  repeat' split
  all_goals first
    | exact h
    | exact k.recordOutcome c i _ _ h
    | exact k.setMember c i _ h
    | exact k.placeInFlight c i _ _ _ (issues_of_memberRefusal (by assumption) (by assumption))
        (open_ _ (by assumption))
        (admits_of_memberRefusal (by assumption) (by assumption)) h

theorem handOutOne (k : KeptFan P) {acc : State × List Nat} (w : Nat × Nat) (h : P acc.1) :
    P (handOutOne acc w).1 := by
  obtain ⟨s, passes⟩ := acc
  simp only [Machine.handOutOne]
  split
  · split
    · exact h
    · next x hx =>
      split
      · next ho =>
        refine k.continueIssue (s := { s with waiting := s.waiting.erase w }) _ _ (fun y hy => ?_) (k.waiting _ h)
        rw [Option.some.inj (hy.symm.trans hx)]
        exact ho
      · exact h
  · exact h

theorem handOut (k : KeptFan P) {s : State} (h : P s) : P (handOut s) := by
  have handed : P (s.waiting.foldl Machine.handOutOne (s, [])).1 :=
    foldl_keeps (Q := fun acc : State × List Nat => P acc.1) _ (fun _ w ha => k.handOutOne w ha) s.waiting h
  exact foldl_keeps _ (fun u c hu => k.issuePass c hu) _ handed

end KeptFan

/-! ### Completion and the commit point -/

/-- The changes of a delivery keep the predicate, besides those of the fan-out: a slot that becomes FREE, a response and
a raise (R59, R60). -/
structure KeptDelivery (P : State → Prop) : Prop extends KeptFan P where
  dropSlot : ∀ {s : State} (slot : Nat), P s → P (s.withoutSlot slot)
  respond : ∀ {s : State} (l : Link) (tag : Tag) (o : Status) (d : List Byte), P s → P (respond l tag o d s)
  raise : ∀ {s : State} (l : Link) (kind : AttentionKind) (x : Subject), P s → P (raise l kind x s)

/-- The removal of a queued transaction keeps the predicate: a delivery, and the record of a removed probe that returns
to QUARANTINED (R57). -/
structure KeptRemoval (P : State → Prop) : Prop extends KeptDelivery P where
  unprobe : ∀ {s : State} (h : Handle), P s → P (unprobe h s)

/-- The changes that a quarantine entry is made of keep the predicate: the removal of a queued transaction, a raise, a
runtime part and the removal of a reservation (R107 to R109). -/
structure KeptQueue (P : State → Prop) : Prop where
  removeQueued : ∀ {s : State} {t : Txn} (o : Status), t ∈ s.pool → P s → P (removeQueued t (some o) s)
  raise : ∀ {s : State} (l : Link) (kind : AttentionKind) (x : Subject), P s → P (raise l kind x s)
  setRuntime : ∀ {s : State} (h : Handle) (rt : Runtime), P s → P (s.setRuntime h rt)
  removeReservation : ∀ {s : State} (h : Handle), P s → P (removeReservation h s)

/-- So does the commit point (R42, R43). -/
structure KeptExam (P : State → Prop) : Prop extends KeptQueue P where
  commitPoint : ∀ {s : State}, P s → P (commitPoint s)

/-- The changes that a completion is made of keep the predicate, besides those of a delivery (R57 to R61, R109, R43). -/
structure KeptEnd (P : State → Prop) : Prop extends KeptDelivery P where
  setRuntime : ∀ {s : State} (h : Handle) (rt : Runtime), P s → P (s.setRuntime h rt)
  removeReservation : ∀ {s : State} (h : Handle), P s → P (removeReservation h s)
  installStaging : ∀ {s : State} {l : Link} {g : Configuration} {c : CommitRecord}, s.session = .armed l g c → P s →
    P (installStaging g s)

namespace KeptDelivery

variable {P : State → Prop}

theorem freeSlot (k : KeptDelivery P) {s : State} (slot : Nat) (h : P s) : P (freeSlot slot s) :=
  k.handOut (k.dropSlot slot h)

theorem raiseBoth (k : KeptDelivery P) {s : State} (kind : AttentionKind) (x : Subject) (h : P s) :
    P (raiseBoth kind x s) :=
  k.raise _ _ _ (k.raise _ _ _ h)

theorem deliverTo (k : KeptDelivery P) {s : State} (t : Txn) (o : Status) (d : List Byte) (h : P s) :
    P (deliverTo t o d s) := by
  rw [Machine.deliverTo]
  split
  · exact k.respond _ _ _ _ h
  · dsimp only
    split
    · exact k.raise _ _ _ (k.respond _ _ _ _ h)
    · exact k.respond _ _ _ _ h
  · exact k.issuePass _ (k.recordOutcome _ _ _ _ h)

theorem deliver (k : KeptDelivery P) {s : State} (t : Txn) (o : Status) (d : List Byte) (h : P s) :
    P (deliver t o d s) := by
  rw [Machine.deliver]
  split
  · split
    · exact k.raiseBoth _ _ h
    · exact h
  · exact k.deliverTo t o d h

end KeptDelivery

namespace KeptRemoval

variable {P : State → Prop}

theorem removeQueued (k : KeptRemoval P) {s : State} (t : Txn) (o : Option Status) (h : P s) :
    P (removeQueued t o s) := by
  have freed : P (Machine.freeSlot t.slot (if t.origin.isProbe then Machine.unprobe t.handle s else s)) := by
    refine k.freeSlot _ ?_
    split
    · exact k.unprobe _ h
    · exact h
  unfold Machine.removeQueued
  cases o with
  | none => exact freed
  | some o => exact k.deliver t o [] freed

theorem removeAll (k : KeptRemoval P) {s : State} (ts : List Txn) (o : Option Status) (h : P s) :
    P (removeAll ts o s) := by
  refine List.foldlRecOn ts _ h fun u hu t _ => ?_
  split
  · exact k.removeQueued t o hu
  · exact hu

end KeptRemoval

/-- Several removals of one step keep what each of them keeps (R57). -/
theorem removeAll_keeps {P : State → Prop} {ts : List Txn} {o : Option Status}
    (removed : ∀ u t, t ∈ ts → t ∈ u.pool → P u → P (removeQueued t o u)) {s : State} (h : P s) :
    P (removeAll ts o s) := by
  unfold removeAll
  refine List.foldlRecOn ts _ h fun u hu t ht => ?_
  split
  · next hm => exact removed u t ht hm hu
  · exact hu

theorem removeAllExamined_keeps {P : State → Prop} {ts : List Txn} {o : Option Status}
    (removed : ∀ u t, t ∈ ts → t ∈ u.pool → P u → P (removeExamined t o u)) {s : State} (h : P s) :
    P (removeAllExamined ts o s) := by
  unfold removeAllExamined
  refine List.foldlRecOn ts _ h fun u hu t ht => ?_
  split
  · next hm => exact removed u t ht hm hu
  · exact hu

namespace KeptQueue

variable {P : State → Prop}

theorem setQuarantined (k : KeptQueue P) {s : State} (x : Handle) (c : QuarantineCause) (h : P s) :
    P (setQuarantined x c s) := by
  rw [Machine.setQuarantined]
  split
  · exact k.setRuntime _ _ h
  · exact h

theorem revokeReservation (k : KeptQueue P) {s : State} (x : Handle) (h : P s) : P (revokeReservation x s) := by
  rw [Machine.revokeReservation]
  split
  · exact k.raise _ _ _ (k.removeReservation x h)
  · exact h

theorem removeAll (k : KeptQueue P) {s : State} (ts : List Txn) (o : Status) (h : P s) : P (removeAll ts (some o) s) :=
  removeAll_keeps (fun _ _ _ hm hu => k.removeQueued o hm hu) h

theorem quarantineEntry (k : KeptQueue P) {s : State} (x : Handle) (c : QuarantineCause) (h : P s) :
    P (quarantineEntry x c s) :=
  k.raise _ _ _ (k.raise _ _ _ (k.revokeReservation x (k.removeAll _ _ (k.setQuarantined x c h))))

theorem recheck (k : KeptQueue P) {acc : State × Nat} (slot : Nat) (h : P acc.1) : P (recheck acc slot).1 := by
  rw [Machine.recheck]
  split
  · split
    · exact k.quarantineEntry _ _ h
    · exact h
  · exact h

theorem rechecks (k : KeptQueue P) {slots : List Nat} {acc : State × Nat} (h : P acc.1) :
    P (slots.foldl Machine.recheck acc).1 :=
  foldl_keeps (Q := fun acc : State × Nat => P acc.1) _ (fun _ n ha => k.recheck n ha) _ h

end KeptQueue

namespace KeptExam

variable {P : State → Prop}

theorem examine (k : KeptExam P) {s : State} (hs : List Handle) (h : P s) : P (examine hs s) := by
  rw [Machine.examine]
  split
  · exact k.commitPoint h
  · exact h

theorem removeExamined (k : KeptExam P) {s : State} {t : Txn} (o : Status) (ht : t ∈ s.pool) (h : P s) :
    P (removeExamined t (some o) s) :=
  k.examine _ (k.removeQueued o ht h)

theorem removeAllExamined (k : KeptExam P) {s : State} (ts : List Txn) (o : Status) (h : P s) :
    P (removeAllExamined ts (some o) s) :=
  removeAllExamined_keeps (fun _ _ _ hm hu => k.removeExamined o hm hu) h

theorem followUp (k : KeptExam P) {s : State} (due : Bool) (t : Txn) (h : P s) : P (followUp due t s) := by
  rw [Machine.followUp]
  refine k.examine _ ?_
  split
  · exact k.quarantineEntry _ _ h
  · exact h

theorem preempt (k : KeptExam P) {s : State} (h : P s) : P (preempt s) :=
  foldl_keeps _ (fun _ x hu => k.revokeReservation x hu) _ (k.removeAll _ _ h)

theorem commitIfAtRest (k : KeptExam P) {s : State} (h : P s) : P (commitIfAtRest s) := by
  rw [Machine.commitIfAtRest]
  split
  · exact k.commitPoint h
  · exact h

theorem armingActions (k : KeptExam P) {s : State} (m : CommitMode) (h : P s) : P (armingActions m s) := by
  cases m with
  | wait => exact h
  | preempt => exact k.preempt h

theorem dropReservations (k : KeptExam P) {s : State} (l : Link) (h : P s) : P (dropReservations l s) :=
  foldl_keeps _ (fun _ x hu => k.examine _ (k.removeReservation x hu)) _ h

end KeptExam

namespace KeptEnd

variable {P : State → Prop}

theorem toKeptRemoval (k : KeptEnd P) : KeptRemoval P where
  toKeptDelivery := k.toKeptDelivery
  unprobe x h := by
    rw [Machine.unprobe]
    split
    · exact k.setRuntime _ _ h
    · exact h

theorem reportHealth (k : KeptEnd P) {s : State} (t : Txn) (o : Status) (h : P s) : P (reportHealth t o s) := by
  rw [Machine.reportHealth]
  split
  · exact k.setRuntime _ _ h
  · exact h

theorem toKeptQueue (k : KeptEnd P) : KeptQueue P where
  removeQueued o _ h := k.toKeptRemoval.removeQueued _ (some o) h
  raise := k.raise
  setRuntime := k.setRuntime
  removeReservation := k.removeReservation

theorem toKeptExam (k : KeptEnd P) : KeptExam P where
  toKeptQueue := k.toKeptQueue
  commitPoint h := by
    rw [Machine.commitPoint]
    split
    · next hs => exact k.raise _ _ _ (k.respond _ _ _ _ (k.toKeptQueue.rechecks (k.installStaging hs h)))
    · exact h

theorem removeExamined (k : KeptEnd P) {s : State} (t : Txn) (o : Option Status) (h : P s) :
    P (removeExamined t o s) :=
  k.toKeptExam.examine _ (k.toKeptRemoval.removeQueued t o h)

/-- A completion keeps what its own change of the engine keeps (R59, R76). -/
theorem complete (k : KeptEnd P) {s : State} (p : Port) (o : Status) (d : List Byte)
    (engine : ∀ e, P (s.setEngine p e)) (h : P s) : P (complete p o d s) := by
  rw [Machine.complete]
  split
  · exact k.toKeptExam.followUp _ _ (k.deliver _ _ _ (k.freeSlot _ (k.reportHealth _ _ (engine _))))
  · exact h

end KeptEnd

end Sys2Proof.Machine
end

section
/-! SUPPORT. The canonical form of the sparse tables: which operations keep it, and what a lookup in a table in
canonical form says. -/
namespace Sys2Proof

/-- The canonical form is that the keys rise from each entry to every later one. -/
theorem Table.sorted_iff {α : Type} (t : Table α) :
    t.sorted = true ↔ List.Pairwise (fun a b : Nat × α => a.1 < b.1) t := by
  induction t with
  | nil => simp [Table.sorted]
  | cons e rest ih =>
    obtain ⟨k, v⟩ := e
    simp [Table.sorted, ih]

theorem Table.sorted_filter {α : Type} {t : Table α} (f : Nat × α → Bool) (h : t.sorted = true) :
    Table.sorted (List.filter f t) = true :=
  (Table.sorted_iff _).mpr (((Table.sorted_iff t).mp h).filter f)

theorem Table.sorted_remove {α : Type} {t : Table α} (k : Nat) (h : t.sorted = true) : (t.remove k).sorted = true :=
  Table.sorted_filter _ h

@[simp] theorem Table.sorted_mapValues {α β : Type} (f : Nat → α → β) (t : Table α) :
    (t.mapValues f).sorted = t.sorted := by
  rw [Bool.eq_iff_iff, Table.sorted_iff, Table.sorted_iff, Table.mapValues, List.pairwise_map]

/-- Every key of a table with one more value is the new key or one of the table. -/
theorem Table.mem_put {α : Type} {t : Table α} {k : Nat} {v : α} {e : Nat × α} (h : e ∈ t.put k v) :
    e = (k, v) ∨ e ∈ t := by
  induction t with
  | nil => exact .inl (List.mem_singleton.mp h)
  | cons d rest ih =>
    obtain ⟨j, w⟩ := d
    rw [Table.put] at h
    split at h
    · exact List.mem_cons.mp h
    · split at h
      · exact (List.mem_cons.mp h).imp id (List.mem_cons_of_mem _)
      · rcases List.mem_cons.mp h with h | h
        · exact .inr (h ▸ List.mem_cons_self)
        · exact (ih h).imp id (List.mem_cons_of_mem _)

theorem Table.sorted_put {α : Type} {t : Table α} (k : Nat) (v : α) (h : t.sorted = true) :
    (t.put k v).sorted = true := by
  induction t with
  | nil => rfl
  | cons d rest ih =>
    obtain ⟨j, w⟩ := d
    rw [Table.sorted_iff, List.pairwise_cons] at h
    obtain ⟨first, others⟩ := h
    rw [Table.put]
    split
    · next lt =>
      rw [Table.sorted_iff, List.pairwise_cons, List.pairwise_cons]
      refine ⟨fun e he => ?_, first, others⟩
      rcases List.mem_cons.mp he with rfl | he
      · exact lt
      · exact Nat.lt_trans lt (first e he)
    · split
      · next eq =>
        subst eq
        exact (Table.sorted_iff _).mpr (List.pairwise_cons.mpr ⟨first, others⟩)
      · next ge ne =>
        refine (Table.sorted_iff _).mpr (List.pairwise_cons.mpr ⟨fun e he => ?_, ?_⟩)
        · rcases Table.mem_put he with rfl | he
          · have : j < k := by omega
            exact this
          · exact first e he
        · exact (Table.sorted_iff _).mp (ih ((Table.sorted_iff _).mpr others))

/-- A value that is found is an entry. -/
theorem Table.mem_of_find {α : Type} {t : Table α} {k : Nat} {v : α} (h : t.find k = some v) : (k, v) ∈ t := by
  induction t with
  | nil => exact absurd h (by simp)
  | cons d rest ih =>
    obtain ⟨j, w⟩ := d
    rw [Table.find] at h
    split at h
    · next eq =>
      rw [← eq, Option.some.inj h]
      exact List.mem_cons_self
    · exact List.mem_cons_of_mem _ (ih h)

/-- In a table in canonical form every entry is what is found under its key. -/
theorem Table.find_of_mem {α : Type} {t : Table α} {k : Nat} {v : α} (hs : t.sorted = true) (h : (k, v) ∈ t) :
    t.find k = some v := by
  induction t with
  | nil => exact absurd h List.not_mem_nil
  | cons d rest ih =>
    obtain ⟨j, w⟩ := d
    rw [Table.sorted_iff, List.pairwise_cons] at hs
    obtain ⟨first, others⟩ := hs
    rw [Table.find]
    rcases List.mem_cons.mp h with h | h
    · obtain ⟨rfl, rfl⟩ := Prod.mk.inj h
      exact if_pos rfl
    · rw [if_neg (Nat.ne_of_lt (first _ h))]
      exact ih ((Table.sorted_iff _).mpr others) h

theorem Table.mem_iff_find {α : Type} {t : Table α} {k : Nat} {v : α} (hs : t.sorted = true) :
    (k, v) ∈ t ↔ t.find k = some v :=
  ⟨Table.find_of_mem hs, Table.mem_of_find⟩

theorem Table.find_eq_none_iff {α : Type} (t : Table α) (k : Nat) : t.find k = none ↔ ∀ e ∈ t, e.1 ≠ k := by
  induction t with
  | nil => simp
  | cons d rest ih =>
    obtain ⟨j, w⟩ := d
    rw [Table.find]
    split
    · next eq => simp [eq]
    · next ne => simp [ih, ne]

/-- The keys of a table in canonical form are distinct. -/
theorem Table.nodup_keys {α : Type} {t : Table α} (h : t.sorted = true) : (t.map Prod.fst).Nodup :=
  List.pairwise_map.mpr (((Table.sorted_iff t).mp h).imp Nat.ne_of_lt)

/-- An entry of a table in canonical form with one more value is the new one, or an entry under another key. -/
theorem Table.mem_put_iff {α : Type} {t : Table α} (hs : t.sorted = true) {k : Nat} {v : α} {e : Nat × α} :
    e ∈ t.put k v ↔ e = (k, v) ∨ e ∈ t ∧ e.1 ≠ k := by
  obtain ⟨n, x⟩ := e
  rw [Table.mem_iff_find (Table.sorted_put k v hs), Table.mem_iff_find hs, Table.find_put]
  by_cases hn : n = k
  · simp [hn, eq_comm]
  · simp [hn]

theorem Table.mem_remove_iff {α : Type} (t : Table α) {k : Nat} {e : Nat × α} :
    e ∈ t.remove k ↔ e ∈ t ∧ e.1 ≠ k := by
  rw [Table.remove, List.mem_filter, decide_eq_true_eq]

end Sys2Proof
end

section
/-! SUPPORT. The four invariants that every change keeps without asking for another: distinct tags, consistent
containment units, the bounds of the pool and canonical tables. `Keeps` says that a change keeps all four; the
operations of a completion and of the containment units are such changes. -/
namespace Sys2Proof.Machine

/-- The change from one state to another keeps the four invariants. -/
structure Keeps (s t : State) : Prop where
  tags : s.tagsDistinct → t.tagsDistinct
  containment : s.containmentConsistent → t.containmentConsistent
  pool : s.poolBounded → t.poolBounded
  tables : s.tablesSorted → t.tablesSorted

theorem Keeps.refl (s : State) : Keeps s s :=
  ⟨id, id, id, id⟩

theorem Keeps.trans {s t u : State} (h : Keeps s t) (g : Keeps t u) : Keeps s u :=
  ⟨g.tags ∘ h.tags, g.containment ∘ h.containment, g.pool ∘ h.pool, g.tables ∘ h.tables⟩

/-! ### What the four invariants read -/

/-- Two states hold the same tables, but for the attention sets. -/
structure SameTables (s t : State) : Prop where
  records : t.records = s.records
  generations : t.generations = s.generations
  segments : t.segments = s.segments
  groups : t.groups = s.groups
  contexts : t.contexts = s.contexts
  session : t.session = s.session

theorem tablesSorted_congr {s t : State} (h : SameTables s t)
    (attention : ∀ l, (s.link l).attention.sorted = true → (t.link l).attention.sorted = true)
    (hs : s.tablesSorted) : t.tablesSorted := by
  obtain ⟨records, generations, segments, groups, contexts, staging, links⟩ := hs
  refine ⟨?_, ?_, ?_, ?_, ?_, ?_, fun l => attention l (links l)⟩
  · rw [h.records]; exact records
  · rw [h.generations]; exact generations
  · rw [h.segments]; exact segments
  · rw [h.groups]; exact groups
  · rw [h.contexts]; exact contexts
  · rw [h.session]; exact staging

theorem poolBounded_congr {s t : State} (h : t.pool = s.pool) (hs : s.poolBounded) : t.poolBounded := by
  simpa only [State.poolBounded, State.attributed, h] using hs

theorem containmentConsistent_congr {s t : State} (h : t.units = s.units) (hs : s.containmentConsistent) :
    t.containmentConsistent := by
  simpa only [State.containmentConsistent, State.unit, h] using hs

theorem tagsDistinct_congr {s t : State} (h : t.links = s.links) (hs : s.tagsDistinct) : t.tagsDistinct := by
  simpa only [State.tagsDistinct, State.link, h] using hs

/-- A change of what none of the four reads: the clock, the engines, the lines, the reservations, the waiting list and
the registers of the device. -/
theorem Keeps.of_eq {s t : State} (links : t.links = s.links) (units : t.units = s.units) (pool : t.pool = s.pool)
    (tables : SameTables s t) : Keeps s t := by
  refine ⟨tagsDistinct_congr links, containmentConsistent_congr units, poolBounded_congr pool,
    tablesSorted_congr tables fun l h => ?_⟩
  rw [State.link, links]
  exact h

/-- A change of the pool alone. -/
theorem Keeps.pooled {s : State} {ts : List Txn} (h : s.poolBounded → ({ s with pool := ts } : State).poolBounded) :
    Keeps s { s with pool := ts } :=
  ⟨id, id, h, tablesSorted_congr ⟨rfl, rfl, rfl, rfl, rfl, rfl⟩ fun _ => id⟩

/-- A change of the tables alone. -/
theorem Keeps.tabled {s t : State} (links : t.links = s.links) (units : t.units = s.units) (pool : t.pool = s.pool)
    (h : s.tablesSorted → t.tablesSorted) : Keeps s t :=
  ⟨tagsDistinct_congr links, containmentConsistent_congr units, poolBounded_congr pool, h⟩

/-! ### The links -/

/-- A change of a link interface keeps the tags distinct and the attention set canonical. -/
structure LinkKept (i j : LinkState) : Prop where
  tags : i.tags.Nodup → j.tags.Nodup
  attention : i.attention.sorted = true → j.attention.sorted = true

theorem LinkKept.refl (i : LinkState) : LinkKept i i :=
  ⟨id, id⟩

theorem keeps_setLink {s : State} {l : Link} {i : LinkState} (h : LinkKept (s.link l) i) :
    Keeps s (s.setLink l i) := by
  refine ⟨fun hs m => ?_, id, poolBounded_congr rfl, tablesSorted_congr ⟨rfl, rfl, rfl, rfl, rfl, rfl⟩ fun m => ?_⟩
  · rw [State.link_setLink]
    split
    · exact h.tags (hs l)
    · exact hs m
  · rw [State.link_setLink]
    split
    · next e => rw [e]; exact h.attention
    · exact id

theorem keeps_raise (l : Link) (kind : AttentionKind) (x : Subject) (s : State) : Keeps s (raise l kind x s) :=
  keeps_setLink ⟨id, Table.sorted_put _ _⟩

theorem keeps_raiseBoth (kind : AttentionKind) (x : Subject) (s : State) : Keeps s (raiseBoth kind x s) :=
  (keeps_raise _ _ _ s).trans (keeps_raise _ _ _ _)

theorem keeps_respond (l : Link) (tag : Tag) (o : Status) (d : List Byte) (s : State) :
    Keeps s (respond l tag o d s) := by
  by_cases h : tag ∈ (s.link l).outstanding
  · rw [respond_outstanding _ _ _ _ _ h]
    exact keeps_setLink ⟨((LinkFlow.respond o d h).tags.nodup_iff).mpr, id⟩
  · rw [respond_not_outstanding _ _ _ _ _ h]
    exact .refl s

theorem keeps_answer (l : Link) (tag : Tag) (o : Status) (s : State) : Keeps s (answer l tag o s) :=
  keeps_respond l tag o [] s

theorem keeps_dropFrame (l : Link) (s : State) : Keeps s (dropFrame l s) :=
  (keeps_setLink (s := s) (l := l) (by exact ⟨id, id⟩)).trans (keeps_raise _ _ _ _)

/-! ### The tables -/

theorem keeps_records {s : State} {rs : Table Record} (h : s.records.sorted = true → rs.sorted = true) :
    Keeps s { s with records := rs } :=
  .tabled rfl rfl rfl fun ⟨records, others⟩ => ⟨h records, others⟩

theorem keeps_contexts {s : State} {xs : Table Context} (h : s.contexts.sorted = true → xs.sorted = true) :
    Keeps s { s with contexts := xs } :=
  .tabled rfl rfl rfl fun ⟨records, generations, segments, groups, contexts, others⟩ =>
    ⟨records, generations, segments, groups, h contexts, others⟩

theorem keeps_session {s : State} {x : Session}
    (h : s.tablesSorted → ∀ g, x.staging? = some g → g.sorted = true) : Keeps s { s with session := x } :=
  .tabled rfl rfl rfl fun hs => by
    obtain ⟨records, generations, segments, groups, contexts, _, links⟩ := id hs
    exact ⟨records, generations, segments, groups, contexts, h hs, links⟩

theorem keeps_setRuntime (h : Handle) (rt : Runtime) (s : State) : Keeps s (s.setRuntime h rt) := by
  rw [State.setRuntime]
  split
  · exact keeps_records (Table.sorted_put _ _)
  · exact .refl s

theorem keeps_setContext (c : Nat) (x : Context) (s : State) : Keeps s (s.setContext c x) :=
  keeps_contexts (Table.sorted_put _ _)

theorem sorted_bumpGeneration {t : Table (BitVec 4)} (n : Nat) (h : t.sorted = true) :
    (bumpGeneration t n).sorted = true := by
  rw [bumpGeneration]
  split
  · exact Table.sorted_remove n h
  · exact Table.sorted_put n _ h

/-- The commit point installs the staging view, whose tables are canonical (R43). -/
theorem keeps_installStaging {s : State} {g : Configuration} (hg : s.session.staging? = some g) :
    Keeps s (installStaging g s) := by
  refine .tabled rfl rfl rfl fun ⟨_, generations, _, _, contexts, staging, links⟩ => ?_
  have sorted := staging g hg
  simp only [Configuration.sorted, Bool.and_eq_true] at sorted
  obtain ⟨⟨endpoints, segments⟩, groups⟩ := sorted
  exact ⟨(Table.sorted_mapValues _ _).trans endpoints,
    foldl_keeps (Q := fun t : Table (BitVec 4) => t.sorted = true) _ (fun _ n => sorted_bumpGeneration n) _ generations,
    segments, groups, contexts, fun _ h => absurd h (by simp [installStaging, Session.staging?]), links⟩

/-! ### The pool -/

theorem keeps_withoutSlot (slot : Nat) (s : State) : Keeps s (s.withoutSlot slot) :=
  .pooled (flow_dropSlot slot s).pool

theorem keeps_place (origin : Origin) {l : Link} (h : Handle) (cfg : EndpointConfig) (op : Operation)
    (index : Option (BitVec 24)) (length : Option Nat) (data : List Byte) (deadline : Time) {s : State}
    (open_ : s.slotOpen l = true) : Keeps s (place origin l h cfg op index length data deadline s) := by
  have bounded := (flow_place origin l h cfg op index length data deadline s open_).pool
  rw [place] at bounded ⊢
  split
  · exact .refl s
  · next n hn =>
    rw [hn] at bounded
    exact .pooled bounded

/-- The transactions changed one by one, each keeping its slot and its link. -/
theorem keeps_mapPool {s : State} (f : Txn → Txn) (slot : ∀ t, (f t).slot = t.slot)
    (attributed : ∀ t, (f t).attributed = t.attributed) : Keeps s { s with pool := s.pool.map f } := by
  refine .pooled fun ⟨distinct, below, counts⟩ => ⟨?_, ?_, fun l => ?_⟩
  · have : Txn.slot ∘ f = Txn.slot := funext slot
    rw [List.map_map, this]
    exact distinct
  · intro u hu
    obtain ⟨t, ht, rfl⟩ := List.mem_map.mp hu
    rw [slot]
    exact below t ht
  · have : (fun t => decide (t.attributed = l)) ∘ f = fun t : Txn => decide (t.attributed = l) :=
      funext fun t => by rw [Function.comp_apply, attributed]
    have counted := counts l
    rw [State.attributed] at counted ⊢
    rw [List.filter_map, List.length_map, this]
    exact counted

/-! ### Completion -/

/-- Everything below a completion keeps the four invariants, from whatever state it is counted. -/
theorem keptEnd_keeps (s : State) : KeptEnd (Keeps s) where
  waiting _ h := h.trans (.of_eq rfl rfl rfl ⟨rfl, rfl, rfl, rfl, rfl, rfl⟩)
  setContext _ _ _ h := h.trans (keeps_setContext _ _ _)
  closeContext _ _ h := h.trans ((keeps_respond _ _ _ _ _).trans (keeps_contexts fun hc => by
    rw [respond_contexts] at hc
    exact Table.sorted_remove _ hc))
  placeMember _ _ _ _ _ _ _ _ _ _ open_ _ h := h.trans (keeps_place _ _ _ _ _ _ _ _ open_)
  dropSlot _ h := h.trans (keeps_withoutSlot _ _)
  respond _ _ _ _ h := h.trans (keeps_respond _ _ _ _ _)
  raise _ _ _ h := h.trans (keeps_raise _ _ _ _)
  setRuntime _ _ h := h.trans (keeps_setRuntime _ _ _)
  removeReservation _ h := h.trans (.of_eq rfl rfl rfl ⟨rfl, rfl, rfl, rfl, rfl, rfl⟩)
  installStaging hs h := h.trans (keeps_installStaging (by rw [hs]; rfl))

theorem keeps_setEngine (p : Port) (e : Engine) (s : State) : Keeps s (s.setEngine p e) :=
  .of_eq rfl rfl rfl ⟨rfl, rfl, rfl, rfl, rfl, rfl⟩

theorem keeps_complete (p : Port) (o : Status) (d : List Byte) (s : State) : Keeps s (complete p o d s) :=
  (keptEnd_keeps s).complete p o d (fun e => keeps_setEngine p e s) (.refl s)

theorem keeps_settle (told : List Port) (before s : State) : Keeps s (settle told before s) := by
  obtain ⟨es, he⟩ := (settled_settle told before s).rest
  rw [he]
  exact .of_eq rfl rfl rfl ⟨rfl, rfl, rfl, rfl, rfl, rfl⟩

theorem keeps_upTo (e : Time) (s : State) : Keeps s (s.upTo e) :=
  .of_eq rfl rfl rfl ⟨rfl, rfl, rfl, rfl, rfl, rfl⟩

/-! ### The containment units and the lines -/

theorem keeps_setUnit {s : State} {p : Port} {u : Containment} (h : (s.unit p).consistent → u.consistent) :
    Keeps s (s.setUnit p u) :=
  ⟨id, fun hs => consistent_setUnit hs (h (hs p)), poolBounded_congr rfl,
    tablesSorted_congr ⟨rfl, rfl, rfl, rfl, rfl, rfl⟩ fun _ => id⟩

end Sys2Proof.Machine
end

section
/-! SUPPORT. How a request is taken, for any predicate of the state it leaves: it is answered with a status at once, or
passes its checks and is taken further (R169 to R171, R187, R3, R15, R28). -/
namespace Sys2Proof.Machine

variable {P : State → Prop} {l : Link} {tag : Tag} {s : State}

/-- A request is not taken while RSTN is low; its frame is dropped; or it is accepted and taken (R169, R182). -/
theorem acceptRequest_cases {ps : List Byte} {take : State → State} (held : P s)
    (dropped : P (dropFrame l (clockPut l (frameLength ps) s)))
    (taken : s.accepts l tag ps → P (take (s.accepted l tag ps))) : P (acceptRequest l tag ps take s) := by
  by_cases ha : s.accepts l tag ps
  · rw [acceptRequest_accepts _ ha]
    exact taken ha
  · have hu : ((clockPut l (frameLength ps) s).link l).tagInUse tag = (s.link l).tagInUse tag := by
      rw [clockPut_eq, State.link_setLink_self]
      rfl
    rw [acceptRequest]
    split
    · exact held
    · next low =>
      dsimp only
      split
      · exact dropped
      · next short =>
        rw [takeFrame]
        split
        · exact dropped
        · next free =>
          rw [hu] at free
          exact absurd ⟨by simpa using low, by simpa using free, Nat.le_of_not_lt short⟩ ha

theorem acceptReset_cases {ps : List Byte} {take : State → State} (held : P s)
    (dropped : P (dropFrame l (clockPut l (frameLength ps) s)))
    (taken : s.rstnLow = false → P (take (clockPut l (frameLength ps) s))) : P (acceptReset l ps take s) := by
  rw [acceptReset]
  split
  · exact held
  · next low =>
    dsimp only
    split
    · exact dropped
    · exact taken (by simpa using low)

theorem withBlock_cases {α : Type} {block : Option α} {take : α → State → State}
    (answered : ∀ o, P (answer l tag o s)) (taken : ∀ a, block = some a → P (take a s)) :
    P (withBlock l tag block take s) := by
  cases block with
  | none => exact answered _
  | some a => exact taken a rfl

theorem withRecord_cases {h : Handle} {take : Record → State → State} (answered : ∀ o, P (answer l tag o s))
    (taken : ∀ r, s.record? h = some r → P (take r s)) : P (withRecord l tag h take s) := by
  rw [withRecord]
  split
  · exact answered _
  · next r hr => exact taken r hr

theorem unlessRefused_cases {refusal : Option Status} {take : State → State} (answered : ∀ o, P (answer l tag o s))
    (taken : refusal = none → P (take s)) : P (unlessRefused l tag refusal take s) := by
  cases refusal with
  | none => exact taken rfl
  | some o => exact answered o

theorem withStaging_cases {take : Configuration → State → State} (answered : ∀ o, P (answer l tag o s))
    (taken : ∀ g, s.session.staging? = some g → P (take g s)) : P (withStaging l tag take s) := by
  rw [withStaging]
  split
  · next g _ hg =>
    split
    · exact taken _ hg
    · exact answered _
  · exact answered _

theorem withView_cases {v : View} {take : Configuration → State → State} (answered : ∀ o, P (answer l tag o s))
    (taken : ∀ g, P (take g s)) : P (withView l tag v take s) := by
  cases v with
  | committed => exact taken _
  | staging => exact withStaging_cases answered fun g _ => taken g

theorem withOpenSession_cases {take : Configuration → State → State} (answered : ∀ o, P (answer l tag o s))
    (taken : ∀ g e, s.session = .opened l g e → P (take g s)) : P (withOpenSession l tag take s) := by
  rw [withOpenSession]
  split
  · exact answered _
  · next h g e hs =>
    split
    · next eq => exact taken g e (by rw [hs, eq])
    · exact answered _
  · exact answered _

/-! ### Edits of the staging view -/

section
variable {g : Configuration} (answered : ∀ o, P (answer l tag o s)) (applied : ∀ g' d, P (applyEdit l tag g' d s))
include answered applied

theorem addEndpoint_cases (c : EndpointConfig) : P (addEndpoint l tag c g s) := by
  rw [addEndpoint]
  split
  · exact answered _
  · exact answered _
  · exact applied _ _

theorem modifyEndpoint_cases (h : Handle) (c : EndpointConfig) : P (modifyEndpoint l tag h c g s) := by
  rw [modifyEndpoint]
  split
  · exact unlessRefused_cases answered fun _ => applied _ _
  · exact answered _

theorem retireEndpoint_cases (h : Handle) : P (retireEndpoint l tag h g s) := by
  rw [retireEndpoint]
  split
  · exact applied _ _
  · exact answered _

theorem addSegment_cases (x : Segment) : P (addSegment l tag x g s) := by
  rw [addSegment]
  split
  · exact answered _
  · exact answered _
  · exact applied _ _

theorem retireSegment_cases (n : Nat) : P (retireSegment l tag n g s) := by
  rw [retireSegment]
  split
  · exact answered _
  · split
    · exact answered _
    · exact applied _ _

theorem setGroup_cases (n : Nat) (hs : List Handle) : P (setGroup l tag n hs g s) := by
  rw [setGroup]
  split
  · exact applied _ _
  · exact answered _

end

end Sys2Proof.Machine
end

section
/-! SUPPORT. What a command can do, packaged once: a relation between the state before and the state after that the
changes of `KeptStep` have is had by every command. -/
namespace Sys2Proof.Machine

/-! ### What the checks of a request establish -/

/-- The slot check is the last of the admission of a TRANSACT (R48). -/
theorem slotOpen_of_transactRefusal {s : State} {l : Link} {h : Handle} {o : OperationFields} {r : Record}
    (hr : transactRefusal s l h o r = none) : s.slotOpen l = true := by
  rw [transactRefusal] at hr
  repeat' split at hr
  all_goals first
    | assumption
    | exact absurd hr (by simp)

theorem slotOpen_of_releaseRefusal {s : State} {l : Link} {h : Handle} {r : Record}
    (hr : releaseRefusal s l h r = none) : s.slotOpen l = true := by
  rw [releaseRefusal] at hr
  repeat' split at hr
  all_goals first
    | assumption
    | exact absurd hr (by simp)

theorem slotOpen_setRuntime (h : Handle) (rt : Runtime) (l : Link) (s : State) :
    (s.setRuntime h rt).slotOpen l = s.slotOpen l := by
  rw [State.setRuntime]
  split <;> rfl

theorem active_of_reserveRefusal {s : State} {l : Link} {h : Handle} {r : Record}
    (hr : reserveRefusal s l h r = none) : r.runtime.health.isActive = true := by
  rw [reserveRefusal] at hr
  split at hr
  · exact absurd hr (by simp)
  · split at hr
    · exact absurd hr (by simp)
    · next active => simpa using active

theorem tagInUse_cleared (i : LinkState) (tag : Tag) : i.cleared.tagInUse tag = false := rfl

theorem link_clearLink (l m : Link) (s : State) :
    (clearLink l s).link m = if m = l then (s.link l).cleared else s.link m :=
  State.link_setLink _ _ _ _

/-- The ACTIVE transaction of a port is in the pool. -/
theorem mem_pool_of_activeTxn {s : State} {p : Port} {t : Txn} (h : s.activeTxn? p = some t) : t ∈ s.pool := by
  rw [State.activeTxn?, Option.bind_eq_some_iff] at h
  obtain ⟨n, _, hn⟩ := h
  exact List.mem_of_find?_eq_some hn

/-- A loss of arbitration is reported by the containment unit, which leaves the pool (R124). -/
theorem reportLoss_pool (p : Port) (s : State) : (reportLoss p s).pool = s.pool := by
  obtain ⟨us, ls, h⟩ := (contained_reportLoss p s).rest
  rw [h]

theorem yieldBus_pool (p : Port) (s : State) : (yieldBus p s).pool = s.pool := by
  rw [yieldBus, putLines_pool]
  rfl

/-- A tag that is not in use joins the outstanding ones (R169, R170). -/
theorem nodup_tags_append {i : LinkState} {tag : Tag} (free : i.tagInUse tag = false) (h : i.tags.Nodup) :
    (i.outstanding ++ [tag] ++ i.queue.map Response.tag).Nodup := by
  have absent : tag ∉ i.tags := fun hm => by
    rw [(tagInUse_iff i tag).mpr hm] at free
    exact absurd free (by decide)
  have perm : (i.outstanding ++ [tag] ++ i.queue.map Response.tag).Perm (tag :: i.tags) := by
    rw [List.append_assoc]
    exact List.perm_middle
  exact perm.nodup_iff.mpr (List.nodup_cons.mpr ⟨absent, h⟩)

/-- A GET can take the head of the queue away and nothing else of what the invariants read (R172, R173). -/
theorem linkKept_get (i : LinkState) (part : GetPart) : LinkKept i (i.get part) := by
  have finish : ∀ (j : LinkState) n, LinkKept j (j.finishGet n) := by
    intro j n
    rw [LinkState.finishGet]
    split
    · refine ⟨fun h => ?_, id⟩
      rw [LinkState.tags]
      dsimp only
      split
      · exact (((List.tail_sublist j.queue).map Response.tag).append_left j.outstanding).nodup h
      · exact h
    · exact .refl j
  cases part with
  | start => exact ⟨id, id⟩
  | finish n => exact finish i n
  | whole n => exact ⟨fun h => (finish i.startGet n).tags h, (finish i.startGet n).attention⟩

theorem Instr.eq_of_isRstn {c : Instr} (h : c.isRstn = true) : c = .rstnAssert ∨ ∃ straps, c = .rstnRelease straps := by
  unfold Instr.isRstn at h
  split at h
  · exact .inl rfl
  · exact .inr ⟨_, rfl⟩
  · exact absurd h (by decide)

/-! ### The relation -/

/-- The states hold the same but for the clock, the registers of the device, the engines, the lines, the waiting list
and the commands that wait. -/
structure SameButIdle (s t : State) : Prop where
  links : t.links = s.links
  units : t.units = s.units
  pool : t.pool = s.pool
  tables : SameTables s t
  epoch : t.epoch = s.epoch
  reservations : t.reservations = s.reservations

/-- A relation of a state to a later one that the changes of the commands have: `R` the changes that follow one another
within a command, `Q` what a command comes to as a whole, an edit of the staging view among them. The two edges of RSTN
stand apart. -/
structure KeptStep (R Q : State → State → Prop) : Prop where
  refl : ∀ s, R s s
  trans : ∀ {s t u}, R s t → R t u → R s u
  weaken : ∀ {s t}, R s t → Q s t
  after_setLink : ∀ {s l i t}, LinkKept (s.link l) i → Q (s.setLink l i) t → Q s t
  after_frame : ∀ {s t u}, SameButIdle s t → Q t u → Q s u
  frame : ∀ {s t}, SameButIdle s t → R s t
  fan : ∀ s, KeptFan (R s)
  on_setLink : ∀ {s l i}, LinkKept (s.link l) i → R s (s.setLink l i)
  on_setUnit : ∀ {s p u}, ((s.unit p).consistent → u.consistent) → R s (s.setUnit p u)
  on_respond : ∀ l tag o d s, R s (respond l tag o d s)
  on_place : ∀ origin {l} h cfg op index length data deadline {s : State}, s.slotOpen l = true →
    R s (place origin l h cfg op index length data deadline s)
  on_mapPool : ∀ {s : State} (f : Txn → Txn), (∀ t, (f t).slot = t.slot) → (∀ t, (f t).attributed = t.attributed) →
    R s { s with pool := s.pool.map f }
  on_setTxn : ∀ {t u : Txn} {s : State}, t ∈ s.pool → u.slot = t.slot → u.attributed = t.attributed → R s (s.setTxn u)
  on_setContext : ∀ c x s, R s (s.setContext c x)
  on_dropContexts : ∀ f (s : State), R s { s with contexts := s.contexts.filter f }
  on_complete : ∀ p o d s, R s (complete p o d s)
  on_removeExamined : ∀ t o s, R s (removeExamined t o s)
  on_examine : ∀ hs s, R s (examine hs s)
  on_removeReservation : ∀ h s, R s (removeReservation h s)
  on_moveExpiry : ∀ h e s, R s (moveExpiry h e s)
  on_reserve : ∀ l e {h r} {s : State}, s.record? h = some r → r.runtime.health.isActive = true →
    R s { s with reservations := s.reservations ++ [{ handle := h, holder := l, expiry := e }] }
  on_operatorEntry : ∀ h s, R s (quarantineEntry h .operator s)
  on_setWriteBusy : ∀ h w s, R s (setWriteBusy h w s)
  on_probed : ∀ {h r s}, s.record? h = some r →
    R s (s.setRuntime h { r.runtime with health := r.runtime.health.probed })
  on_cleared : ∀ {h r s}, s.record? h = some r → r.runtime.health.isActive = true →
    R s (s.setRuntime h { r.runtime with score := 0 })
  on_arm : ∀ {l g e} tag mode d {s : State}, s.session = .opened l g e → R s (arm l tag mode d g s)
  on_reopen : ∀ {l g c} e {s : State}, s.session = .armed l g c → R s { s with session := .opened l g e }
  on_dropSession : ∀ s, R s (dropSession s)
  on_resetBlocks : ∀ s, R s (resetBlocks s)
  on_openSession : ∀ l tag {s : State}, s.session = .absent → Q s (answer l tag .ok (openSession l s))
  on_addEndpoint : ∀ {l g e c ps} tag {s : State}, s.session = .opened l g e → recordBlock? ps = some c →
    Q s (addEndpoint l tag c g s)
  on_modifyEndpoint : ∀ {l g e x ps} tag {s : State}, s.session = .opened l g e → modifyBlock? ps = some x →
    Q s (modifyEndpoint l tag x.1 x.2 g s)
  on_retireEndpoint : ∀ {l g e} tag h {s : State}, s.session = .opened l g e → Q s (retireEndpoint l tag h g s)
  on_addSegment : ∀ {l g e} tag x {s : State}, s.session = .opened l g e → Q s (addSegment l tag x g s)
  on_retireSegment : ∀ {l g e n ps} tag {s : State}, s.session = .opened l g e → retireSegmentBlock? ps = some n →
    Q s (retireSegment l tag n g s)
  on_setGroup : ∀ {l g e x ps} tag {s : State}, s.session = .opened l g e → setGroupBlock? ps = some x →
    Q s (setGroup l tag x.1 x.2 g s)

namespace KeptStep

variable {R Q : State → State → Prop}

/-! ### Links, engines and lines -/

theorem on_raise (k : KeptStep R Q) (l : Link) (kind : AttentionKind) (x : Subject) (s : State) :
    R s (raise l kind x s) :=
  k.on_setLink ⟨id, Table.sorted_put _ _⟩

theorem on_raiseBoth (k : KeptStep R Q) (kind : AttentionKind) (x : Subject) (s : State) :
    R s (raiseBoth kind x s) :=
  k.trans (k.on_raise _ _ _ s) (k.on_raise _ _ _ _)

theorem on_answer (k : KeptStep R Q) (l : Link) (tag : Tag) (o : Status) (s : State) : R s (answer l tag o s) :=
  k.on_respond l tag o [] s

theorem on_dropFrame (k : KeptStep R Q) (l : Link) (s : State) : R s (dropFrame l s) :=
  k.trans (k.on_setLink (s := s) (l := l) (by exact ⟨id, id⟩)) (k.on_raise _ _ _ _)

theorem on_setEngine (k : KeptStep R Q) (p : Port) (e : Engine) (s : State) : R s (s.setEngine p e) :=
  k.frame ⟨rfl, rfl, rfl, ⟨rfl, rfl, rfl, rfl, rfl, rfl⟩, rfl, rfl⟩

theorem on_upTo (k : KeptStep R Q) (e : Time) (s : State) : R s (s.upTo e) :=
  k.frame ⟨rfl, rfl, rfl, ⟨rfl, rfl, rfl, rfl, rfl, rfl⟩, rfl, rfl⟩

theorem on_settle (k : KeptStep R Q) (told : List Port) (before s : State) : R s (settle told before s) := by
  obtain ⟨es, he⟩ := (settled_settle told before s).rest
  rw [he]
  exact k.frame ⟨rfl, rfl, rfl, ⟨rfl, rfl, rfl, rfl, rfl, rfl⟩, rfl, rfl⟩

/-- A change of the lines is no change of the causes or of the containment state (R123). -/
theorem on_putLines (k : KeptStep R Q) (p : Port) (scl sda other : Bool) (s : State) :
    R s (putLines p scl sda other s) := by
  rw [putLines]
  refine k.trans (t := s.setLine p ((s.line p).put scl sda other s.now))
    (k.frame ⟨rfl, rfl, rfl, ⟨rfl, rfl, rfl, rfl, rfl, rfl⟩, rfl, rfl⟩) (k.on_setUnit ?_)
  exact id

theorem on_releaseLines (k : KeptStep R Q) (p : Port) (s : State) : R s (releaseLines p s) :=
  k.trans (k.on_putLines _ _ _ _ s) (k.on_putLines _ _ _ _ _)

theorem on_endPhase (k : KeptStep R Q) (p : Port) (s : State) : R s (endPhase p s) :=
  k.trans (k.on_setEngine p _ s) (k.on_releaseLines p _)

theorem on_clearedLines (k : KeptStep R Q) (p : Port) (r : ClearReading) (s : State) : R s (clearedLines p r s) := by
  rw [clearedLines]
  split
  · exact k.on_releaseLines p s
  · exact k.on_putLines _ _ _ _ s

theorem on_joinCause (k : KeptStep R Q) (p : Port) (c : Cause) (s : State) : R s (joinCause p c s) := by
  rw [joinCause]
  split
  · exact k.refl s
  · refine k.trans (k.on_setUnit fun _ => ?_) (k.on_raiseBoth _ _ _)
    simp [Containment.consistent_iff, CauseSet.isEmpty_put_true]

/-- The last cause leaves and the state becomes another than HELD, in one change of the unit. -/
theorem on_recover (k : KeptStep R Q) {p : Port} {causes : CauseSet} (he : causes.isEmpty = true) (s : State) :
    R s (recover p (s.setUnit p { s.unit p with causes := causes })) := by
  have keeps : ∀ x, x ≠ .held →
      R s (putContainment p x (s.setUnit p { s.unit p with causes := causes })) := by
    intro x hx
    rw [putContainment, State.unit_setUnit_self, State.setUnit_setUnit]
    exact k.on_setUnit fun _ => by simp [Containment.consistent_iff, he, hx]
  rw [recover]
  split
  · exact k.trans (keeps .clear (by simp)) (k.on_raiseBoth _ _ _)
  · exact keeps _ (by simp)
  · exact keeps .awaitResume (by simp)

theorem on_leaveCause (k : KeptStep R Q) (p : Port) (c : Cause) (s : State) : R s (leaveCause p c s) := by
  rw [leaveCause]
  split
  · next present =>
    dsimp only
    split
    · next he => exact k.on_recover he s
    · next he =>
      refine k.on_setUnit fun consistent => ?_
      have held : (s.unit p).state = .held := by
        refine consistent.mp (Bool.eq_false_iff.mpr fun empty => ?_)
        rw [(CauseSet.isEmpty_iff _).mp empty c] at present
        exact absurd present (by decide)
      simpa [Containment.consistent_iff, held] using he
  · exact k.refl s

theorem on_clearPort (k : KeptStep R Q) {p : Port} {s : State} (h : (s.unit p).state ≠ .held) :
    R s (clearPort p s) := by
  refine k.trans (k.on_setUnit fun consistent => ?_) (k.on_raiseBoth _ _ _)
  have empty : ¬ (s.unit p).causes.isEmpty = false := fun e => h (consistent.mp e)
  simpa [Containment.consistent_iff] using empty

theorem on_reportStuck (k : KeptStep R Q) (p : Port) (s : State) : R s (reportStuck p s) :=
  k.trans (k.on_joinCause p .stuck s) (k.on_setUnit (by exact id))

theorem on_joinArbitrationIfDue (k : KeptStep R Q) (p : Port) (s : State) : R s (joinArbitrationIfDue p s) := by
  rw [joinArbitrationIfDue]
  split
  · exact k.on_joinCause p _ s
  · exact k.refl s

theorem on_reportLoss (k : KeptStep R Q) (p : Port) (s : State) : R s (reportLoss p s) :=
  k.trans (k.on_setUnit (p := p) (by exact id)) (k.on_joinArbitrationIfDue p _)

theorem on_completeStuck (k : KeptStep R Q) (p : Port) (s : State) : R s (completeStuck p s) :=
  k.trans (k.on_reportStuck p s) (k.on_complete p _ _ _)

theorem on_joinInhibit (k : KeptStep R Q) (p : Port) (s : State) : R s (joinInhibit p s) := by
  rw [joinInhibit]
  split
  · split
    · exact k.trans (k.on_joinCause p _ s) (k.on_complete p _ _ _)
    · exact k.trans (k.on_joinCause p _ s) (k.on_setEngine p _ _)
  · exact k.on_joinCause p _ s

theorem on_filterComplete (k : KeptStep R Q) (p : Port) (s : State) : R s (filterComplete p s) := by
  rw [filterComplete]
  split
  · exact k.on_leaveCause p _ s
  · split
    · exact k.refl s
    · exact k.on_joinInhibit p s

theorem on_atBoundary (k : KeptStep R Q) {p : Port} {own : State → State} (h : ∀ s, R s (own s)) (s : State) :
    R s (atBoundary p own s) := by
  rw [atBoundary]
  split
  · exact k.on_complete p _ _ s
  · exact h s

/-! ### Acceptance -/

theorem on_clockPut (k : KeptStep R Q) (l : Link) (n : Nat) (s : State) : R s (clockPut l n s) :=
  k.on_setLink (by exact ⟨id, id⟩)

theorem on_holdTag (k : KeptStep R Q) {l : Link} {tag : Tag} {s : State} (free : (s.link l).tagInUse tag = false) :
    R s (holdTag l tag s) :=
  k.on_setLink (by exact ⟨nodup_tags_append free, id⟩)

theorem on_accepted (k : KeptStep R Q) {l : Link} {tag : Tag} {ps : List Byte} {s : State} (h : s.accepts l tag ps) :
    R s (s.accepted l tag ps) :=
  k.on_setLink (by exact ⟨nodup_tags_append h.2.1, id⟩)

/-- A request leads where what it is taken to leads. -/
theorem on_acceptRequest (k : KeptStep R Q) {l : Link} {tag : Tag} {ps : List Byte} {take : State → State}
    (h : ∀ u, R u (take u)) (s : State) : R s (acceptRequest l tag ps take s) :=
  acceptRequest_cases (k.refl s) (k.trans (k.on_clockPut _ _ s) (k.on_dropFrame _ _))
    fun ha => k.trans (k.on_accepted ha) (h _)

/-- So with an edit, which ends its command. -/
theorem on_acceptEdit (k : KeptStep R Q) {l : Link} {tag : Tag} {ps : List Byte} {take : State → State}
    (h : ∀ u, Q u (take u)) (s : State) : Q s (acceptRequest l tag ps take s) :=
  acceptRequest_cases (k.weaken (k.refl s)) (k.weaken (k.trans (k.on_clockPut _ _ s) (k.on_dropFrame _ _)))
    fun ha => k.after_setLink (by exact ⟨nodup_tags_append ha.2.1, id⟩) (h (s.accepted l tag ps))

theorem on_acceptReset (k : KeptStep R Q) {l : Link} {ps : List Byte} {take : State → State} (h : ∀ u, R u (take u))
    (s : State) : R s (acceptReset l ps take s) :=
  acceptReset_cases (k.refl s) (k.trans (k.on_clockPut _ _ s) (k.on_dropFrame _ _))
    fun _ => k.trans (k.on_clockPut _ _ s) (h _)

/-! ### Queries -/

theorem on_takeQueryEndpoint (k : KeptStep R Q) (l : Link) (tag : Tag) (ps : List Byte) (s : State) :
    R s (takeQueryEndpoint l tag ps s) := by
  refine withBlock_cases (fun o => k.on_answer l tag o s) fun (h, v) _ => ?_
  cases v with
  | committed => exact withRecord_cases (fun o => k.on_answer l tag o s) fun r _ => k.on_respond _ _ _ _ s
  | staging =>
    refine withStaging_cases (fun o => k.on_answer l tag o s) fun g _ => ?_
    rw [queryStagedEndpoint]
    split
    · split
      · exact k.on_respond _ _ _ _ s
      · exact k.on_answer _ _ _ s
    · exact k.on_answer _ _ _ s

theorem on_takeLookup (k : KeptStep R Q) (l : Link) (tag : Tag) (ps : List Byte) (s : State) :
    R s (takeLookup l tag ps s) := by
  refine withBlock_cases (fun o => k.on_answer l tag o s) fun (v, key) _ => ?_
  refine withView_cases (fun o => k.on_answer l tag o s) fun g => ?_
  split
  · exact k.on_respond _ _ _ _ s
  · exact k.on_answer _ _ _ s

theorem on_takeListEndpoints (k : KeptStep R Q) (l : Link) (tag : Tag) (ps : List Byte) (s : State) :
    R s (takeListEndpoints l tag ps s) :=
  withBlock_cases (fun o => k.on_answer l tag o s) fun _ _ =>
    withView_cases (fun o => k.on_answer l tag o s) fun _ => k.on_respond _ _ _ _ s

theorem on_takeQuerySegment (k : KeptStep R Q) (l : Link) (tag : Tag) (ps : List Byte) (s : State) :
    R s (takeQuerySegment l tag ps s) := by
  refine withBlock_cases (fun o => k.on_answer l tag o s) fun (n, v) _ => ?_
  cases v with
  | committed =>
    dsimp only
    rw [querySegmentCommitted]
    split
    · exact k.on_respond _ _ _ _ s
    · exact k.on_answer _ _ _ s
  | staging =>
    refine withStaging_cases (fun o => k.on_answer l tag o s) fun g _ => ?_
    rw [querySegmentStaged]
    split
    · exact k.on_respond _ _ _ _ s
    · exact k.on_respond _ _ _ _ s
    · exact k.on_respond _ _ _ _ s
    · exact k.on_answer _ _ _ s

theorem on_takeQueryGroup (k : KeptStep R Q) (l : Link) (tag : Tag) (ps : List Byte) (s : State) :
    R s (takeQueryGroup l tag ps s) := by
  refine withBlock_cases (fun o => k.on_answer l tag o s) fun (n, v) _ => ?_
  cases v with
  | committed => exact k.on_respond _ _ _ _ s
  | staging => exact withStaging_cases (fun o => k.on_answer l tag o s) fun _ _ => k.on_respond _ _ _ _ s

theorem on_takeQueryDirectory (k : KeptStep R Q) (l : Link) (tag : Tag) (ps : List Byte) (s : State) :
    R s (takeQueryDirectory l tag ps s) :=
  withBlock_cases (fun o => k.on_answer l tag o s) fun _ _ => k.on_respond _ _ _ _ s

/-! ### The staging session -/

theorem on_takeDiscardSession (k : KeptStep R Q) (l : Link) (tag : Tag) (ps : List Byte) (s : State) :
    R s (takeDiscardSession l tag ps s) :=
  withBlock_cases (fun o => k.on_answer l tag o s) fun _ _ =>
    withOpenSession_cases (fun o => k.on_answer l tag o s) fun _ _ _ =>
      k.trans (k.on_dropSession s) (k.on_answer _ _ _ _)

theorem on_expireSession (k : KeptStep R Q) (s : State) : R s (expireSession s) := by
  rw [expireSession]
  split
  · exact k.trans (k.trans (k.on_upTo _ s) (k.on_dropSession _)) (k.on_raise _ _ _ _)
  · exact k.refl s

theorem on_takeOpenSession (k : KeptStep R Q) (l : Link) (tag : Tag) (ps : List Byte) (s : State) :
    Q s (takeOpenSession l tag ps s) := by
  refine withBlock_cases (fun o => k.weaken (k.on_answer l tag o s)) fun _ _ => ?_
  split
  · next hs => exact k.on_openSession l tag hs
  · exact k.weaken (k.on_answer _ _ _ s)

theorem on_takeAddEndpoint (k : KeptStep R Q) (l : Link) (tag : Tag) (ps : List Byte) (s : State) :
    Q s (takeAddEndpoint l tag ps s) :=
  withBlock_cases (fun o => k.weaken (k.on_answer l tag o s)) fun _ hb =>
    withOpenSession_cases (fun o => k.weaken (k.on_answer l tag o s)) fun _ _ hs => k.on_addEndpoint tag hs hb

theorem on_takeModifyEndpoint (k : KeptStep R Q) (l : Link) (tag : Tag) (ps : List Byte) (s : State) :
    Q s (takeModifyEndpoint l tag ps s) :=
  withBlock_cases (fun o => k.weaken (k.on_answer l tag o s)) fun _ hb =>
    withOpenSession_cases (fun o => k.weaken (k.on_answer l tag o s)) fun _ _ hs => k.on_modifyEndpoint tag hs hb

theorem on_takeRetireEndpoint (k : KeptStep R Q) (l : Link) (tag : Tag) (ps : List Byte) (s : State) :
    Q s (takeRetireEndpoint l tag ps s) :=
  withBlock_cases (fun o => k.weaken (k.on_answer l tag o s)) fun h _ =>
    withOpenSession_cases (fun o => k.weaken (k.on_answer l tag o s)) fun _ _ hs => k.on_retireEndpoint tag h hs

theorem on_takeAddSegment (k : KeptStep R Q) (l : Link) (tag : Tag) (ps : List Byte) (s : State) :
    Q s (takeAddSegment l tag ps s) :=
  withBlock_cases (fun o => k.weaken (k.on_answer l tag o s)) fun x _ =>
    withOpenSession_cases (fun o => k.weaken (k.on_answer l tag o s)) fun _ _ hs => k.on_addSegment tag x hs

theorem on_takeRetireSegment (k : KeptStep R Q) (l : Link) (tag : Tag) (ps : List Byte) (s : State) :
    Q s (takeRetireSegment l tag ps s) :=
  withBlock_cases (fun o => k.weaken (k.on_answer l tag o s)) fun _ hb =>
    withOpenSession_cases (fun o => k.weaken (k.on_answer l tag o s)) fun _ _ hs => k.on_retireSegment tag hs hb

theorem on_takeSetGroup (k : KeptStep R Q) (l : Link) (tag : Tag) (ps : List Byte) (s : State) :
    Q s (takeSetGroup l tag ps s) :=
  withBlock_cases (fun o => k.weaken (k.on_answer l tag o s)) fun _ hb =>
    withOpenSession_cases (fun o => k.weaken (k.on_answer l tag o s)) fun _ _ hs => k.on_setGroup tag hs hb

theorem on_takeCommit (k : KeptStep R Q) (l : Link) (tag : Tag) (ps : List Byte) (s : State) :
    R s (takeCommit l tag ps s) :=
  withBlock_cases (fun o => k.on_answer l tag o s) fun (mode, d) _ =>
    withOpenSession_cases (fun o => k.on_answer l tag o s) fun _ _ hs =>
      k.trans (k.on_arm tag mode d hs) (k.on_settle _ _ _)

theorem on_failCommit (k : KeptStep R Q) (o : Status) (s : State) : R s (failCommit o s) := by
  rw [failCommit]
  split
  · next h g c hs =>
    exact k.trans (k.on_answer h c.tag o s) (k.on_reopen _ (by rw [answer_session, hs]))
  · exact k.refl s

theorem on_takeAbortCommit (k : KeptStep R Q) (l : Link) (tag : Tag) (ps : List Byte) (s : State) :
    R s (takeAbortCommit l tag ps s) := by
  refine withBlock_cases (fun o => k.on_answer l tag o s) fun _ _ => ?_
  split
  · exact k.on_answer _ _ _ s
  · exact k.on_answer _ _ _ s
  · split
    · exact k.trans (k.on_failCommit _ s) (k.on_answer _ _ _ _)
    · exact k.on_answer _ _ _ s

theorem on_expireCommit (k : KeptStep R Q) (s : State) : R s (expireCommit s) := by
  rw [expireCommit]
  split
  · exact k.trans (k.on_upTo _ s) (k.on_failCommit _ _)
  · exact k.refl s

/-! ### Transactions and health -/

theorem on_takeTransact (k : KeptStep R Q) (l : Link) (tag : Tag) (ps : List Byte) (s : State) :
    R s (takeTransact l tag ps s) := by
  refine withBlock_cases (fun o => k.on_answer l tag o s) fun (h, o) _ => ?_
  refine withRecord_cases (fun o => k.on_answer l tag o s) fun r _ => ?_
  refine unlessRefused_cases (fun o => k.on_answer l tag o s) fun hr => ?_
  exact k.trans (k.on_place _ _ _ _ _ _ _ _ (slotOpen_of_transactRefusal hr)) (k.on_settle _ _ _)

theorem on_removeAllExamined (k : KeptStep R Q) (ts : List Txn) (o : Option Status) (s : State) :
    R s (removeAllExamined ts o s) := by
  refine foldl_keeps (Q := R s) _ (fun u t hu => ?_) ts (k.refl s)
  split
  · exact k.trans hu (k.on_removeExamined t o u)
  · exact hu

theorem on_expireTransaction (k : KeptStep R Q) (n : Nat) (s : State) : R s (expireTransaction n s) := by
  rw [expireTransaction]
  split
  · split
    · exact k.refl s
    · exact k.trans (k.trans (k.on_upTo _ s) (k.on_removeExamined _ _ _)) (k.on_settle _ _ _)
  · exact k.refl s

theorem on_takeRelease (k : KeptStep R Q) (l : Link) (tag : Tag) (ps : List Byte) (s : State) :
    R s (takeRelease l tag ps s) := by
  refine withBlock_cases (fun o => k.on_answer l tag o s) fun h _ => ?_
  refine withRecord_cases (fun o => k.on_answer l tag o s) fun r hrec => ?_
  refine unlessRefused_cases (fun o => k.on_answer l tag o s) fun hr => ?_
  refine k.trans (k.trans (k.on_probed hrec) (k.on_place _ _ _ _ _ _ _ _ ?_)) (k.on_settle _ _ _)
  exact (slotOpen_setRuntime _ _ l s).trans (slotOpen_of_releaseRefusal hr)

theorem on_answerQuarantine (k : KeptStep R Q) (l : Link) (tag : Tag) (h : Handle) (s : State) :
    R s (answerQuarantine l tag h s) := by
  rw [answerQuarantine]
  split
  · exact k.on_respond _ _ _ _ s
  · exact k.refl s

theorem on_takeQuarantine (k : KeptStep R Q) (l : Link) (tag : Tag) (ps : List Byte) (s : State) :
    R s (takeQuarantine l tag ps s) := by
  refine withBlock_cases (fun o => k.on_answer l tag o s) fun h _ => ?_
  refine withRecord_cases (fun o => k.on_answer l tag o s) fun r _ => ?_
  refine unlessRefused_cases (fun o => k.on_answer l tag o s) fun _ => ?_
  rw [quarantineRecord]
  split
  · exact k.on_answer _ _ _ s
  · exact k.on_answerQuarantine _ _ _ s
  · split
    · exact k.on_answer _ _ _ s
    · exact k.trans (k.trans (k.trans (k.on_operatorEntry h s) (k.on_examine _ _)) (k.on_answerQuarantine _ _ _ _))
        (k.on_settle _ _ _)

theorem on_takeClearScore (k : KeptStep R Q) (l : Link) (tag : Tag) (ps : List Byte) (s : State) :
    R s (takeClearScore l tag ps s) := by
  refine withBlock_cases (fun o => k.on_answer l tag o s) fun h _ => ?_
  refine withRecord_cases (fun o => k.on_answer l tag o s) fun r hr => ?_
  refine unlessRefused_cases (fun o => k.on_answer l tag o s) fun _ => ?_
  rw [clearScore]
  split
  · next active => exact k.trans (k.on_cleared hr active) (k.on_respond _ _ _ _ _)
  · exact k.on_answer _ _ _ s

/-! ### Reservations and groups -/

theorem on_takeReserve (k : KeptStep R Q) (l : Link) (tag : Tag) (ps : List Byte) (s : State) :
    R s (takeReserve l tag ps s) := by
  refine withBlock_cases (fun o => k.on_answer l tag o s) fun (h, d) _ => ?_
  refine withRecord_cases (fun o => k.on_answer l tag o s) fun r hr => ?_
  refine unlessRefused_cases (fun o => k.on_answer l tag o s) fun passed => ?_
  rw [reserveRecord]
  split
  · exact k.trans (k.on_moveExpiry h _ s) (k.on_respond _ _ _ _ _)
  · split
    · exact k.trans (k.on_reserve l _ hr (active_of_reserveRefusal passed)) (k.on_respond _ _ _ _ _)
    · exact k.on_answer _ _ _ s

theorem on_takeUnreserve (k : KeptStep R Q) (l : Link) (tag : Tag) (ps : List Byte) (s : State) :
    R s (takeUnreserve l tag ps s) := by
  refine withBlock_cases (fun o => k.on_answer l tag o s) fun h _ => ?_
  refine withRecord_cases (fun o => k.on_answer l tag o s) fun r _ => ?_
  refine unlessRefused_cases (fun o => k.on_answer l tag o s) fun _ => ?_
  rw [unreserveRecord]
  split
  · exact k.on_answer _ _ _ s
  · split
    · exact k.trans (k.trans (k.trans (k.on_removeReservation h s) (k.on_examine _ _)) (k.on_respond _ _ _ _ _))
        (k.on_settle _ _ _)
    · exact k.on_answer _ _ _ s

theorem on_expireReservation (k : KeptStep R Q) (h : Handle) (s : State) : R s (expireReservation h s) := by
  rw [expireReservation]
  split
  · exact k.trans (k.trans (k.trans (k.trans (k.on_upTo _ s) (k.on_removeReservation h _)) (k.on_raise _ _ _ _))
      (k.on_examine _ _)) (k.on_settle _ _ _)
  · exact k.refl s

theorem on_takeGroupTransact (k : KeptStep R Q) (l : Link) (tag : Tag) (ps : List Byte) (s : State) :
    R s (takeGroupTransact l tag ps s) := by
  refine withBlock_cases (fun o => k.on_answer l tag o s) fun f _ => ?_
  rw [groupTransact]
  split
  · exact k.on_answer _ _ _ s
  · split
    · exact k.on_answer _ _ _ s
    · exact k.trans (k.trans (k.on_setContext _ _ s) ((k.fan _).issuePass _ (k.refl _))) (k.on_settle _ _ _)

theorem on_expireContext (k : KeptStep R Q) (c : Nat) (s : State) : R s (expireContext c s) := by
  rw [expireContext]
  split
  · have f := k.fan s
    exact k.trans (f.closeIfDone c (f.setStopFlag c _ (k.trans (f.dropWaiting c
      (k.trans (k.on_upTo _ s) (k.on_setContext _ _ _))) (k.on_removeAllExamined _ _ _)))) (k.on_settle _ _ _)
  · exact k.refl s

/-! ### Ports -/

theorem on_applyEnable (k : KeptStep R Q) (p : Port) (was : Bool) (s : State) : R s (applyEnable p was s) := by
  unfold applyEnable
  split
  · exact k.on_removeAllExamined _ _ s
  · rw [enableEngine]
    split
    · exact k.on_setEngine _ _ s
    · exact k.refl s
  · exact k.refl s

theorem on_filterIfDue (k : KeptStep R Q) (p : Port) (s : State) : R s (filterIfDue p s) := by
  rw [filterIfDue]
  split
  · exact k.on_filterComplete p s
  · exact k.refl s

theorem on_takeConfigurePort (k : KeptStep R Q) (l : Link) (tag : Tag) (ps : List Byte) (s : State) :
    R s (takeConfigurePort l tag ps s) :=
  withBlock_cases (fun o => k.on_answer l tag o s) fun (p, c) _ =>
    k.trans (k.trans (k.trans (k.trans (k.trans (k.on_setEngine p { s.engine p with config := c } s)
        (k.on_applyEnable _ _ _)) (k.on_joinArbitrationIfDue _ _)) (k.on_filterIfDue _ _)) (k.on_answer _ _ _ _))
        (k.on_settle _ _ _)

theorem on_takeQueryPort (k : KeptStep R Q) (l : Link) (tag : Tag) (ps : List Byte) (s : State) :
    R s (takeQueryPort l tag ps s) :=
  withBlock_cases (fun o => k.on_answer l tag o s) fun _ _ => k.on_respond _ _ _ _ s

theorem on_takeClearBus (k : KeptStep R Q) (l : Link) (tag : Tag) (ps : List Byte) (s : State) :
    R s (takeClearBus l tag ps s) := by
  refine withBlock_cases (fun o => k.on_answer l tag o s) fun p _ => ?_
  rw [clearBus]
  split
  · exact k.on_setEngine _ _ s
  · exact k.on_answer _ _ _ s

theorem on_takeResumePort (k : KeptStep R Q) (l : Link) (tag : Tag) (ps : List Byte) (s : State) :
    R s (takeResumePort l tag ps s) := by
  refine withBlock_cases (fun o => k.on_answer l tag o s) fun p _ => ?_
  have resumes : (s.unit p).state ≠ .held → R s (settle [] s (answer l tag .ok (clearPort p s))) := fun h =>
    k.trans (k.trans (k.on_clearPort h) (k.on_answer _ _ _ _)) (k.on_settle _ _ _)
  rw [resumePort]
  split
  · exact k.on_answer _ _ _ s
  · exact k.on_answer _ _ _ s
  · next e hs => exact resumes (by simp [hs])
  · next hs => exact resumes (by simp [hs])

/-! ### Requests of the link interface -/

theorem on_takeIdentify (k : KeptStep R Q) (l : Link) (tag : Tag) (ps : List Byte) (s : State) :
    R s (takeIdentify l tag ps s) :=
  withBlock_cases (fun o => k.on_answer l tag o s) fun _ _ => k.on_respond _ _ _ _ s

theorem on_takeConfigureLink (k : KeptStep R Q) (l : Link) (tag : Tag) (ps : List Byte) (s : State) :
    R s (takeConfigureLink l tag ps s) :=
  withBlock_cases (fun o => k.on_answer l tag o s) fun _ _ =>
    k.trans (k.on_setLink (by exact ⟨id, id⟩)) (k.on_answer _ _ _ (configureLink l _ s))

theorem on_takeConfigureDevice (k : KeptStep R Q) (l : Link) (tag : Tag) (ps : List Byte) (s : State) :
    R s (takeConfigureDevice l tag ps s) :=
  withBlock_cases (fun o => k.on_answer l tag o s) fun (x, y) _ =>
    k.trans (t := configureDevice x y s) (k.frame ⟨rfl, rfl, rfl, ⟨rfl, rfl, rfl, rfl, rfl, rfl⟩, rfl, rfl⟩)
      (k.on_answer l tag .ok (configureDevice x y s))

theorem on_takeGetAttention (k : KeptStep R Q) (l : Link) (tag : Tag) (ps : List Byte) (s : State) :
    R s (takeGetAttention l tag ps s) :=
  withBlock_cases (fun o => k.on_answer l tag o s) fun _ _ =>
    k.trans (k.on_setLink (by exact ⟨id, fun _ => rfl⟩)) (k.on_respond _ _ _ _ (emptyAttention l s))

/-! ### Resets -/

theorem on_clearLink (k : KeptStep R Q) (l : Link) (s : State) : R s (clearLink l s) :=
  k.on_setLink (by exact ⟨fun _ => List.nodup_nil, fun _ => rfl⟩)

theorem on_resetLink (k : KeptStep R Q) (l : Link) (s : State) : R s (resetLink l s) := by
  have dropped : R s (dropHeldSession l s) := by
    rw [dropHeldSession]
    split
    · exact k.on_dropSession s
    · exact k.refl s
  have abandoned : ∀ u, R u (abandonContexts l u) := fun u =>
    k.trans (k.on_dropContexts _ u) (k.frame ⟨rfl, rfl, rfl, ⟨rfl, rfl, rfl, rfl, rfl, rfl⟩, rfl, rfl⟩)
  have marked : ∀ u, R u (markOrphans l u) := fun u => by
    refine k.on_mapPool _ (fun t => ?_) fun t => ?_
    all_goals
      split
      all_goals rfl
  have forgotten : ∀ u, R u
      (forgetClears l u) := fun u => k.frame ⟨rfl, rfl, rfl, ⟨rfl, rfl, rfl, rfl, rfl, rfl⟩, rfl, rfl⟩
  have released : ∀ u, R u (dropReservations l u) := fun u =>
    foldl_keeps (Q := R u) _ (fun _ h hv => k.trans hv (k.trans (k.on_removeReservation h _) (k.on_examine _ _))) _
      (k.refl u)
  have unmarked := k.trans dropped (k.trans (abandoned _) (marked _))
  exact k.trans (k.trans (k.trans (k.trans unmarked (k.on_removeAllExamined _ _ _)) (forgotten _)) (released _))
    (k.on_clearLink l _)

theorem on_takeLinkReset (k : KeptStep R Q) (l : Link) (tag : Tag) (s : State) : R s (takeLinkReset l tag s) := by
  refine k.trans (k.trans (k.trans (k.on_resetLink l s) (k.on_holdTag ?_)) (k.on_answer _ _ _ _)) (k.on_settle _ _ _)
  rw [resetLink]
  rw [clearLink, State.link_setLink_self, tagInUse_cleared]

theorem on_takeSoftReset (k : KeptStep R Q) (l : Link) (tag : Tag) (s : State) : R s (takeSoftReset l tag s) := by
  refine k.trans (k.trans (k.trans (k.trans (k.trans (k.on_resetBlocks s) (k.on_clearLink .a _))
      (k.on_clearLink .b _)) (k.on_raiseBoth _ _ _)) (k.on_holdTag (l := l) ?_)) (k.on_answer _ _ _ _)
  rw [raiseBoth, tagInUse_raise, tagInUse_raise]
  cases l <;> rfl

/-! ### The events of a bus -/

theorem on_startPhase (k : KeptStep R Q) (p : Port) (s : State) : R s (startPhase p s) := by
  rw [startPhase]
  split
  · split
    · exact k.trans (k.trans (k.on_upTo _ s) (k.on_setEngine p _ _)) (k.on_putLines _ _ _ _ _)
    · exact k.refl s
  · exact k.refl s

theorem on_acknowledgeWrite (k : KeptStep R Q) (p : Port) (s : State) : R s (acknowledgeWrite p s) := by
  rw [acknowledgeWrite]
  split
  · exact k.trans (k.trans (k.trans (k.on_setEngine p _ s) (k.on_endPhase p _)) (k.on_atBoundary
      (fun u => k.on_setEngine p _ u) _)) (k.on_settle _ _ _)
  · exact k.refl s

theorem on_failSelection (k : KeptStep R Q) (p : Port) (s : State) : R s (failSelection p s) := by
  rw [failSelection]
  split
  · exact k.trans (k.trans (k.on_endPhase p s) (k.on_atBoundary (fun u => k.trans (k.on_raiseBoth _ _ u)
      (k.on_complete p _ _ _)) _)) (k.on_settle _ _ _)
  · exact k.refl s

theorem on_removePoll (k : KeptStep R Q) (h : Handle) (s : State) : R s (removePoll h s) := by
  rw [removePoll]
  split
  · exact k.on_setWriteBusy _ _ s
  · exact k.refl s

theorem on_startPollWait (k : KeptStep R Q) (h : Handle) (s : State) : R s (startPollWait h s) := by
  rw [startPollWait]
  split
  · exact k.on_setWriteBusy _ _ s
  · exact k.refl s

theorem on_acknowledgePoll (k : KeptStep R Q) (p : Port) (s : State) : R s (acknowledgePoll p s) := by
  rw [acknowledgePoll]
  split
  · exact k.trans (k.trans (k.on_endPhase p s) (k.on_atBoundary (fun u => k.trans (k.on_removePoll _ u)
      (k.on_setEngine p _ _)) _)) (k.on_settle _ _ _)
  · exact k.refl s

theorem on_refusePoll (k : KeptStep R Q) (p : Port) (t : Txn) (s : State) : R s (refusePoll p t s) := by
  rw [refusePoll]
  split
  · rw [requeue]
    dsimp only
    split
    · exact k.trans (k.trans (k.on_startPollWait _ s) (k.on_setEngine p _ _)) (k.on_removeExamined _ _ _)
    · exact k.trans (k.on_startPollWait _ s) (k.on_setEngine p _ _)
  · exact k.trans (k.on_startPollWait _ s) (k.on_complete p _ _ _)

theorem on_nackPoll (k : KeptStep R Q) (p : Port) (s : State) : R s (nackPoll p s) := by
  rw [nackPoll]
  split
  · exact k.trans (k.trans (k.on_endPhase p s) (k.on_atBoundary (k.on_refusePoll p _) _)) (k.on_settle _ _ _)
  · exact k.refl s

theorem on_finishTransfer (k : KeptStep R Q) (p : Port) (d : List Byte) (s : State) : R s (finishTransfer p d s) := by
  rw [finishTransfer]
  split
  · exact k.trans (k.trans (k.on_endPhase p s) (k.on_atBoundary (k.on_complete p _ _) _)) (k.on_settle _ _ _)
  · exact k.refl s

theorem on_atBoundary_at (k : KeptStep R Q) {p : Port} {own : State → State} {s : State} (h : R s (own s)) :
    R s (atBoundary p own s) := by
  rw [atBoundary]
  split
  · exact k.on_complete p _ _ s
  · exact h

theorem on_nackAddress (k : KeptStep R Q) (p : Port) (s : State) : R s (nackAddress p s) := by
  rw [nackAddress]
  split
  · next t _ ht _ =>
    refine k.trans (k.trans (k.on_endPhase p s) (k.on_atBoundary_at ?_)) (k.on_settle _ _ _)
    split
    · exact k.on_setTxn (t := t) (by rw [endPhase_pool]; exact mem_pool_of_activeTxn ht) rfl rfl
    · exact k.on_complete p _ _ _
  · exact k.refl s

theorem on_nackData (k : KeptStep R Q) (p : Port) (s : State) : R s (nackData p s) := by
  rw [nackData]
  split
  · split
    · exact k.trans (k.trans (k.on_endPhase p s) (k.on_atBoundary (k.on_complete p _ _) _)) (k.on_settle _ _ _)
    · exact k.refl s
  · exact k.refl s

theorem on_yieldBus (k : KeptStep R Q) (p : Port) (s : State) : R s (yieldBus p s) :=
  k.trans (k.on_setEngine p _ s) (k.on_putLines _ _ _ _ _)

theorem on_countLoss (k : KeptStep R Q) {t : Txn} {s : State} (ht : t ∈ s.pool) : R s (countLoss t s) := by
  rw [countLoss]
  split
  · exact k.on_setTxn ht rfl rfl
  · exact k.refl s

theorem on_afterLoss (k : KeptStep R Q) (p : Port) (t : Txn) (s : State) : R s (afterLoss p t s) := by
  rw [afterLoss]
  split
  · exact k.refl s
  · exact k.on_complete p _ _ s

theorem on_loseArbitration (k : KeptStep R Q) (p : Port) (s : State) : R s (loseArbitration p s) := by
  rw [loseArbitration]
  split
  · next t ht =>
    refine k.trans (k.trans (k.trans (k.trans (k.on_yieldBus p s) (k.on_reportLoss p _)) (k.on_countLoss ?_))
        (k.on_atBoundary (k.on_afterLoss p t) _)) (k.on_settle _ _ _)
    rw [reportLoss_pool, yieldBus_pool]
    exact mem_pool_of_activeTxn ht
  · exact k.refl s

theorem on_endClear (k : KeptStep R Q) (p : Port) (kind : ClearKind) (free : Bool) (s : State) :
    R s (endClear p kind free s) := by
  unfold endClear answerClear
  split
  · exact k.trans (k.on_setEngine p _ s) (k.on_answer _ _ _ _)
  · exact k.on_setEngine p _ s

theorem on_holdClock (k : KeptStep R Q) (p : Port) (s : State) : R s (holdClock p s) :=
  k.trans (k.on_putLines _ _ _ _ s) (k.on_upTo _ _)

theorem on_holdData (k : KeptStep R Q) (p : Port) (s : State) : R s (holdData p s) :=
  k.trans (k.on_putLines _ _ _ _ s) (k.on_upTo _ _)

theorem on_reachStretchLimit (k : KeptStep R Q) (p : Port) (s : State) : R s (reachStretchLimit p s) := by
  rw [reachStretchLimit]
  split
  · exact k.trans (k.trans (k.on_holdClock p s) (k.on_endClear p _ _ _)) (k.on_settle _ _ _)
  · exact k.trans (k.trans (k.on_holdClock p s) (k.on_completeStuck p _)) (k.on_settle _ _ _)
  · exact k.refl s

theorem on_reachSdaLimit (k : KeptStep R Q) (p : Port) (s : State) : R s (reachSdaLimit p s) := by
  rw [reachSdaLimit]
  split
  · exact k.trans (k.trans (k.on_holdData p s) (k.on_completeStuck p _)) (k.on_settle _ _ _)
  · exact k.refl s

theorem on_finishClear (k : KeptStep R Q) (p : Port) (r : ClearReading) (s : State) : R s (finishClear p r s) := by
  rw [finishClear]
  split
  · exact k.trans (k.trans (k.on_clearedLines p r s) (k.on_endClear p _ _ _)) (k.on_settle _ _ _)
  · exact k.refl s

theorem on_abortAtBoundary (k : KeptStep R Q) (p : Port) (acked : Bool) (s : State) :
    R s (abortAtBoundary p acked s) := by
  rw [abortAtBoundary]
  split
  · exact k.trans (k.trans (k.trans (k.on_setEngine p _ s) (k.on_endPhase p _)) (k.on_complete p _ _ _))
      (k.on_settle _ _ _)
  · exact k.refl s

/-! ### Timers and pins -/

theorem on_expireTimed (k : KeptStep R Q) (h : Handle) (s : State) : R s (expireTimed h s) := by
  rw [expireTimed]
  split
  · exact k.trans (k.trans (k.on_upTo _ s) (k.on_setWriteBusy _ _ _)) (k.on_settle _ _ _)
  · exact k.refl s

theorem on_endPollWait (k : KeptStep R Q) (h : Handle) (s : State) : R s (endPollWait h s) := by
  rw [endPollWait]
  split
  · exact k.trans (k.trans (k.on_upTo _ s) (k.on_setWriteBusy _ _ _)) (k.on_settle _ _ _)
  · exact k.refl s

theorem on_endPollWindow (k : KeptStep R Q) (h : Handle) (s : State) : R s (endPollWindow h s) := by
  rw [endPollWindow]
  split
  · exact k.trans (k.trans (k.on_upTo _ s) (k.on_setWriteBusy _ _ _)) (k.on_settle _ _ _)
  · exact k.refl s

theorem on_expireDecay (k : KeptStep R Q) (p : Port) (s : State) : R s (expireDecay p s) := by
  have step : ∀ u, R u (decayStep p u) := fun u => by
    rw [decayStep]
    split
    · exact k.trans (k.on_setUnit (by exact id)) (k.on_leaveCause p _ _)
    · exact k.on_setUnit (by exact id)
  rw [expireDecay]
  split
  · exact k.trans (k.trans (k.on_upTo _ s) (step _)) (k.on_settle _ _ _)
  · exact k.refl s

theorem on_expireFreeLine (k : KeptStep R Q) (p : Port) (s : State) : R s (expireFreeLine p s) := by
  have stopped : ∀ u, R u (stopFreeLine p u) := fun u => k.on_setUnit (by exact id)
  rw [expireFreeLine]
  split
  · exact k.trans (k.trans (k.trans (k.on_upTo _ s) (stopped _)) (k.on_leaveCause p _ _)) (k.on_settle _ _ _)
  · exact k.refl s

theorem on_changeInhibit (k : KeptStep R Q) (p : Port) (high : Bool) (s : State) : R s (changeInhibit p high s) := by
  rw [changeInhibit]
  split
  · exact k.refl s
  · exact k.on_setUnit (by exact id)

theorem on_expireFilter (k : KeptStep R Q) (p : Port) (s : State) : R s (expireFilter p s) := by
  rw [expireFilter]
  split
  · exact k.trans (k.trans (k.on_upTo _ s) (k.on_filterComplete p _)) (k.on_settle _ _ _)
  · exact k.refl s

theorem on_expireHoldoff (k : KeptStep R Q) (p : Port) (s : State) : R s (expireHoldoff p s) := by
  rw [expireHoldoff]
  split
  · next e hs =>
    refine k.trans (k.trans (k.on_upTo _ s) (k.on_clearPort ?_)) (k.on_settle _ _ _)
    have same : ((s.upTo e).unit p).state = .holdoff e := hs
    simp [same]
  · exact k.refl s

/-! ### Exchanges -/

theorem on_takeKind (k : KeptStep R Q) (kind : Byte) (l : Link) (tag : Tag) (ps : List Byte) (s : State) :
    Q s (takeKind kind l tag ps s) := by
  suffices taken : ∀ take, takeKind kind l tag ps = take → Q s (take s) from taken _ rfl
  intro take h
  unfold takeKind at h
  split at h
  all_goals subst h
  · exact k.weaken (k.on_takeQueryEndpoint l tag ps s)
  · exact k.weaken (k.on_takeLookup l tag ps s)
  · exact k.weaken (k.on_takeListEndpoints l tag ps s)
  · exact k.weaken (k.on_takeQuerySegment l tag ps s)
  · exact k.weaken (k.on_takeQueryGroup l tag ps s)
  · exact k.weaken (k.on_takeQueryDirectory l tag ps s)
  · exact k.on_takeOpenSession l tag ps s
  · exact k.weaken (k.on_takeDiscardSession l tag ps s)
  · exact k.on_takeAddEndpoint l tag ps s
  · exact k.on_takeModifyEndpoint l tag ps s
  · exact k.on_takeRetireEndpoint l tag ps s
  · exact k.on_takeAddSegment l tag ps s
  · exact k.on_takeRetireSegment l tag ps s
  · exact k.on_takeSetGroup l tag ps s
  · exact k.weaken (k.on_takeCommit l tag ps s)
  · exact k.weaken (k.on_takeAbortCommit l tag ps s)
  · exact k.weaken (k.on_takeTransact l tag ps s)
  · exact k.weaken (k.on_takeRelease l tag ps s)
  · exact k.weaken (k.on_takeQuarantine l tag ps s)
  · exact k.weaken (k.on_takeClearScore l tag ps s)
  · exact k.weaken (k.on_takeReserve l tag ps s)
  · exact k.weaken (k.on_takeUnreserve l tag ps s)
  · exact k.weaken (k.on_takeGroupTransact l tag ps s)
  · exact k.weaken (k.on_takeConfigurePort l tag ps s)
  · exact k.weaken (k.on_takeQueryPort l tag ps s)
  · exact k.weaken (k.on_takeClearBus l tag ps s)
  · exact k.weaken (k.on_takeResumePort l tag ps s)
  · exact k.weaken (k.on_takeIdentify l tag ps s)
  · exact k.weaken (k.on_takeConfigureLink l tag ps s)
  · exact k.weaken (k.on_takeConfigureDevice l tag ps s)
  · exact k.weaken (k.on_takeGetAttention l tag ps s)
  · exact k.weaken (k.on_takeLinkReset l tag s)
  · exact k.weaken (k.on_takeSoftReset l tag s)
  · exact k.weaken (k.on_answer l tag _ s)

theorem on_exchangePut (k : KeptStep R Q) (l : Link) (bytes : List Byte) (s : State) :
    Q s (exchangePut l bytes s) := by
  rw [exchangePut]
  split
  · exact k.weaken (k.refl s)
  · refine k.after_setLink (t := takePut l bytes (clockPut l bytes.length s)) (by exact ⟨id, id⟩) (?_ : Q
      (clockPut l bytes.length s) _)
    rw [takePut]
    split
    · exact k.weaken (k.on_dropFrame l _)
    · split
      · exact k.on_takeKind _ _ _ _ _
      · rw [takeFrame]
        split
        · exact k.weaken (k.on_dropFrame l _)
        · next free =>
          refine k.after_setLink ?_ (k.on_takeKind _ _ _ _ (holdTag _ _ _))
          exact ⟨nodup_tags_append (by simpa using free), id⟩

theorem on_exchangeGet (k : KeptStep R Q) (l : Link) (part : GetPart) (s : State) : R s (exchangeGet l part s) := by
  rw [exchangeGet]
  split
  · exact k.refl s
  · exact k.on_setLink (linkKept_get _ part)

theorem on_badDirection (k : KeptStep R Q) (d : Byte) (s : State) : R s (badDirection d s) := by
  rw [badDirection]
  split
  · exact k.refl s
  · exact k.on_dropFrame .a s

/-! ### Steps -/

/-- Every command but the two of RSTN answers a next state, to which the relation leads. -/
theorem on_exec (k : KeptStep R Q) {c : Instr} (hc : c.isRstn = false) (s : State) :
    ∃ t, exec c s = .next t ∧ Q s t := by
  cases c with
  | put l bytes => exact ⟨_, rfl, k.on_exchangePut l bytes s⟩
  | get l part => exact ⟨_, rfl, k.weaken (k.on_exchangeGet l part s)⟩
  | badDirectionWindow d => exact ⟨_, rfl, k.weaken (k.on_badDirection d s)⟩
  | addressOnlyWrite _ => exact ⟨_, rfl, k.weaken (k.refl s)⟩
  | windowWithNoWholeByte => exact ⟨_, rfl, k.weaken (k.refl s)⟩
  | queryEndpoint l tag ps => exact ⟨_, rfl, k.weaken (k.on_acceptRequest (k.on_takeQueryEndpoint l tag ps) s)⟩
  | lookup l tag ps => exact ⟨_, rfl, k.weaken (k.on_acceptRequest (k.on_takeLookup l tag ps) s)⟩
  | listEndpoints l tag ps => exact ⟨_, rfl, k.weaken (k.on_acceptRequest (k.on_takeListEndpoints l tag ps) s)⟩
  | querySegment l tag ps => exact ⟨_, rfl, k.weaken (k.on_acceptRequest (k.on_takeQuerySegment l tag ps) s)⟩
  | queryGroup l tag ps => exact ⟨_, rfl, k.weaken (k.on_acceptRequest (k.on_takeQueryGroup l tag ps) s)⟩
  | queryDirectory l tag ps => exact ⟨_, rfl, k.weaken (k.on_acceptRequest (k.on_takeQueryDirectory l tag ps) s)⟩
  | openSession l tag ps => exact ⟨_, rfl, k.on_acceptEdit (k.on_takeOpenSession l tag ps) s⟩
  | discardSession l tag ps => exact ⟨_, rfl, k.weaken (k.on_acceptRequest (k.on_takeDiscardSession l tag ps) s)⟩
  | addEndpoint l tag ps => exact ⟨_, rfl, k.on_acceptEdit (k.on_takeAddEndpoint l tag ps) s⟩
  | modifyEndpoint l tag ps => exact ⟨_, rfl, k.on_acceptEdit (k.on_takeModifyEndpoint l tag ps) s⟩
  | retireEndpoint l tag ps => exact ⟨_, rfl, k.on_acceptEdit (k.on_takeRetireEndpoint l tag ps) s⟩
  | addSegment l tag ps => exact ⟨_, rfl, k.on_acceptEdit (k.on_takeAddSegment l tag ps) s⟩
  | retireSegment l tag ps => exact ⟨_, rfl, k.on_acceptEdit (k.on_takeRetireSegment l tag ps) s⟩
  | setGroup l tag ps => exact ⟨_, rfl, k.on_acceptEdit (k.on_takeSetGroup l tag ps) s⟩
  | commit l tag ps => exact ⟨_, rfl, k.weaken (k.on_acceptRequest (k.on_takeCommit l tag ps) s)⟩
  | abortCommit l tag ps => exact ⟨_, rfl, k.weaken (k.on_acceptRequest (k.on_takeAbortCommit l tag ps) s)⟩
  | sessionExpired => exact ⟨_, rfl, k.weaken (k.on_expireSession s)⟩
  | commitDeadline => exact ⟨_, rfl, k.weaken (k.on_expireCommit s)⟩
  | transact l tag ps => exact ⟨_, rfl, k.weaken (k.on_acceptRequest (k.on_takeTransact l tag ps) s)⟩
  | release l tag ps => exact ⟨_, rfl, k.weaken (k.on_acceptRequest (k.on_takeRelease l tag ps) s)⟩
  | quarantine l tag ps => exact ⟨_, rfl, k.weaken (k.on_acceptRequest (k.on_takeQuarantine l tag ps) s)⟩
  | clearScore l tag ps => exact ⟨_, rfl, k.weaken (k.on_acceptRequest (k.on_takeClearScore l tag ps) s)⟩
  | reserve l tag ps => exact ⟨_, rfl, k.weaken (k.on_acceptRequest (k.on_takeReserve l tag ps) s)⟩
  | unreserve l tag ps => exact ⟨_, rfl, k.weaken (k.on_acceptRequest (k.on_takeUnreserve l tag ps) s)⟩
  | reservationExpired h => exact ⟨_, rfl, k.weaken (k.on_expireReservation h s)⟩
  | groupTransact l tag ps => exact ⟨_, rfl, k.weaken (k.on_acceptRequest (k.on_takeGroupTransact l tag ps) s)⟩
  | contextDeadline c => exact ⟨_, rfl, k.weaken (k.on_expireContext c s)⟩
  | configurePort l tag ps => exact ⟨_, rfl, k.weaken (k.on_acceptRequest (k.on_takeConfigurePort l tag ps) s)⟩
  | queryPort l tag ps => exact ⟨_, rfl, k.weaken (k.on_acceptRequest (k.on_takeQueryPort l tag ps) s)⟩
  | clearBus l tag ps => exact ⟨_, rfl, k.weaken (k.on_acceptRequest (k.on_takeClearBus l tag ps) s)⟩
  | resumePort l tag ps => exact ⟨_, rfl, k.weaken (k.on_acceptRequest (k.on_takeResumePort l tag ps) s)⟩
  | identify l tag ps => exact ⟨_, rfl, k.weaken (k.on_acceptRequest (k.on_takeIdentify l tag ps) s)⟩
  | configureLink l tag ps => exact ⟨_, rfl, k.weaken (k.on_acceptRequest (k.on_takeConfigureLink l tag ps) s)⟩
  | configureDevice l tag ps => exact ⟨_, rfl, k.weaken (k.on_acceptRequest (k.on_takeConfigureDevice l tag ps) s)⟩
  | getAttention l tag ps => exact ⟨_, rfl, k.weaken (k.on_acceptRequest (k.on_takeGetAttention l tag ps) s)⟩
  | linkReset l tag ps => exact ⟨_, rfl, k.weaken (k.on_acceptReset (k.on_takeLinkReset l tag) s)⟩
  | softReset l tag ps => exact ⟨_, rfl, k.weaken (k.on_acceptReset (k.on_takeSoftReset l tag) s)⟩
  | rstnAssert => exact absurd hc (by decide)
  | rstnRelease straps => exact absurd hc (by simp [Instr.isRstn])
  | phaseStart p => exact ⟨_, rfl, k.weaken (k.on_startPhase p s)⟩
  | selectionWriteAck p => exact ⟨_, rfl, k.weaken (k.on_acknowledgeWrite p s)⟩
  | segmentFault p => exact ⟨_, rfl, k.weaken (k.on_failSelection p s)⟩
  | recoveryPollAck p => exact ⟨_, rfl, k.weaken (k.on_acknowledgePoll p s)⟩
  | recoveryPollNack p => exact ⟨_, rfl, k.weaken (k.on_nackPoll p s)⟩
  | transferComplete p d => exact ⟨_, rfl, k.weaken (k.on_finishTransfer p d s)⟩
  | addressNack p => exact ⟨_, rfl, k.weaken (k.on_nackAddress p s)⟩
  | dataNack p => exact ⟨_, rfl, k.weaken (k.on_nackData p s)⟩
  | arbitrationLoss p => exact ⟨_, rfl, k.weaken (k.on_loseArbitration p s)⟩
  | stretchLimit p => exact ⟨_, rfl, k.weaken (k.on_reachStretchLimit p s)⟩
  | sdaLowLimit p => exact ⟨_, rfl, k.weaken (k.on_reachSdaLimit p s)⟩
  | busClearEnd p r => exact ⟨_, rfl, k.weaken (k.on_finishClear p r s)⟩
  | transactionDeadline n => exact ⟨_, rfl, k.weaken (k.on_expireTransaction n s)⟩
  | timedRecoveryExpiry h => exact ⟨_, rfl, k.weaken (k.on_expireTimed h s)⟩
  | pollWaitEnd h => exact ⟨_, rfl, k.weaken (k.on_endPollWait h s)⟩
  | pollWindowEnd h => exact ⟨_, rfl, k.weaken (k.on_endPollWindow h s)⟩
  | decayExpiry p => exact ⟨_, rfl, k.weaken (k.on_expireDecay p s)⟩
  | freeLineExpiry p => exact ⟨_, rfl, k.weaken (k.on_expireFreeLine p s)⟩
  | portLinesChange p scl sda => exact ⟨_, rfl, k.weaken (k.on_putLines _ _ _ _ s)⟩
  | inhibitInputChange p high => exact ⟨_, rfl, k.weaken (k.on_changeInhibit p high s)⟩
  | inhibitFilterExpiry p => exact ⟨_, rfl, k.weaken (k.on_expireFilter p s)⟩
  | holdoffExpiry p => exact ⟨_, rfl, k.weaken (k.on_expireHoldoff p s)⟩
  | inhibitAbort p acked => exact ⟨_, rfl, k.weaken (k.on_abortAtBoundary p acked s)⟩

/-- A step takes the front command or is a tick. -/
theorem on_step (k : KeptStep R Q) {s t : State} (hc : ∀ c rest, s.pending = c :: rest → c.isRstn = false)
    (h : step s = .next t) : Q s t := by
  have idle : ∀ u, SameButIdle s u → R s u := fun _ => k.frame
  rw [step] at h
  split at h
  · rw [← Host.Outcome.next.inj h]
    exact k.weaken (idle _ ⟨rfl, rfl, rfl, ⟨rfl, rfl, rfl, rfl, rfl, rfl⟩, rfl, rfl⟩)
  · next c rest hp =>
    obtain ⟨u, hu, related⟩ := k.on_exec (hc c rest hp) { s with pending := rest }
    rw [← Host.Outcome.next.inj (hu.symm.trans h)]
    have idle : SameButIdle s { s with pending := rest } :=
      ⟨rfl, rfl, rfl, ⟨rfl, rfl, rfl, rfl, rfl, rfl⟩, rfl, rfl⟩
    exact k.after_frame idle related

/-- A step, where the two edges of RSTN lead there as well. -/
theorem on_anyStep (k : KeptStep R Q) (asserted : ∀ s, Q s (assertRstn s))
    (released : ∀ straps s, Q s (releaseRstn straps s)) {s t : State} (h : step s = .next t) : Q s t := by
  cases hp : s.pending with
  | nil => exact k.on_step (fun c rest hc => absurd (hp.symm.trans hc) (by simp)) h
  | cons c rest =>
    have idle : SameButIdle s { s with pending := rest } := ⟨rfl, rfl, rfl, ⟨rfl, rfl, rfl, rfl, rfl, rfl⟩, rfl, rfl⟩
    cases hr : c.isRstn with
    | false =>
      refine k.on_step (fun d ds hd => ?_) h
      rw [(List.cons.inj (hp.symm.trans hd)).1.symm, hr]
    | true =>
      rw [step, hp] at h
      rcases Instr.eq_of_isRstn hr with rfl | ⟨straps, rfl⟩
      · rw [← Host.Outcome.next.inj h]
        exact k.after_frame idle (asserted _)
      · rw [← Host.Outcome.next.inj h]
        exact k.after_frame idle (released straps _)

end KeptStep

end Sys2Proof.Machine
end

section
/-! SUPPORT. The four invariants of `Keeps` are kept by every step, and the obligations about them. -/
namespace Sys2Proof.Machine

/-! ### Edits of the staging view -/

theorem sorted_committed {s : State} (h : s.tablesSorted) : s.committed.sorted = true := by
  obtain ⟨records, _, segments, groups, _⟩ := h
  have endpoints : s.committed.endpoints.sorted = true :=
    (Table.sorted_mapValues (fun _ (r : Record) => r.config) s.records).trans records
  have segments' : s.committed.segments.sorted = true := segments
  have groups' : s.committed.groups.sorted = true := groups
  simp only [Configuration.sorted, endpoints, segments', groups', Bool.and_self]

/-- The staging view of a session in canonical tables is canonical. -/
theorem sorted_staging {s : State} {g : Configuration} (h : s.tablesSorted) (hg : s.session.staging? = some g) :
    g.sorted = true := by
  obtain ⟨_, _, _, _, _, staging, _⟩ := h
  exact staging g hg

/-- An edit that keeps the tables of the staging view canonical keeps the four invariants (R29). -/
theorem keeps_applyEdit {l : Link} {tag : Tag} {g g' : Configuration} {e : Time} {s : State} (d : List Byte)
    (hs : s.session = .opened l g e) (hg : g.sorted = true → g'.sorted = true) :
    Keeps s (applyEdit l tag g' d s) := by
  refine (keeps_session fun hsorted x hx => ?_).trans (keeps_respond _ _ _ _ _)
  rw [← Option.some.inj hx]
  exact hg (sorted_staging hsorted (by rw [hs]; rfl))

theorem sorted_withEndpoints {g : Configuration} {es : Table EndpointConfig} (h : g.sorted = true)
    (hes : g.endpoints.sorted = true → es.sorted = true) :
      ({ g with endpoints := es } : Configuration).sorted = true := by
  simp only [Configuration.sorted, Bool.and_eq_true] at h ⊢
  exact ⟨⟨hes h.1.1, h.1.2⟩, h.2⟩

theorem sorted_withSegments {g : Configuration} {xs : Table Segment} (h : g.sorted = true)
    (hxs : g.segments.sorted = true → xs.sorted = true) :
      ({ g with segments := xs } : Configuration).sorted = true := by
  simp only [Configuration.sorted, Bool.and_eq_true] at h ⊢
  exact ⟨⟨h.1.1, hxs h.1.2⟩, h.2⟩

theorem sorted_withGroups {g : Configuration} {ms : Table (List Handle)} (h : g.sorted = true)
    (hms : g.groups.sorted = true → ms.sorted = true) : ({ g with groups := ms } : Configuration).sorted = true := by
  simp only [Configuration.sorted, Bool.and_eq_true] at h ⊢
  exact ⟨⟨h.1.1, h.1.2⟩, hms h.2⟩

theorem sorted_groupsWithout (h : Handle) {groups : Table (List Handle)} (hs : groups.sorted = true) :
    (groupsWithout h groups).sorted = true :=
  Table.sorted_filter _ ((Table.sorted_mapValues _ _).trans hs)

theorem sorted_setGroup (g : Configuration) (n : Nat) (hs : List Handle) (h : g.sorted = true) :
    (g.setGroup n hs).sorted = true := by
  refine sorted_withGroups h fun hg => ?_
  split
  · exact Table.sorted_remove n hg
  · exact Table.sorted_put n hs hg

theorem keeps_openSession (l : Link) (s : State) : Keeps s (openSession l s) :=
  keeps_session fun hs g hg => by
    rw [← Option.some.inj hg]
    exact sorted_committed hs

theorem keeps_addEndpoint {l : Link} {tag : Tag} {c : EndpointConfig} {g : Configuration} {e : Time} {s : State}
    (hs : s.session = .opened l g e) : Keeps s (addEndpoint l tag c g s) := by
  rw [addEndpoint]
  split
  · exact keeps_answer _ _ _ s
  · exact keeps_answer _ _ _ s
  · exact keeps_applyEdit _ hs fun hg => sorted_withEndpoints hg (Table.sorted_put _ _)

theorem keeps_modifyEndpoint {l : Link} {tag : Tag} {h : Handle} {c : EndpointConfig} {g : Configuration} {e : Time}
    {s : State} (hs : s.session = .opened l g e) : Keeps s (modifyEndpoint l tag h c g s) := by
  rw [modifyEndpoint]
  split
  · exact unlessRefused_cases (fun o => keeps_answer l tag o s) fun _ =>
      keeps_applyEdit _ hs fun hg => sorted_withEndpoints hg (Table.sorted_put _ _)
  · exact keeps_answer _ _ _ s

theorem keeps_retireEndpoint {l : Link} {tag : Tag} {h : Handle} {g : Configuration} {e : Time} {s : State}
    (hs : s.session = .opened l g e) : Keeps s (retireEndpoint l tag h g s) := by
  rw [retireEndpoint]
  split
  · refine keeps_applyEdit _ hs fun hg => ?_
    exact sorted_withEndpoints (sorted_withGroups hg (sorted_groupsWithout h)) (Table.sorted_remove _)
  · exact keeps_answer _ _ _ s

theorem keeps_addSegment {l : Link} {tag : Tag} {x : Segment} {g : Configuration} {e : Time} {s : State}
    (hs : s.session = .opened l g e) : Keeps s (addSegment l tag x g s) := by
  rw [addSegment]
  split
  · exact keeps_answer _ _ _ s
  · exact keeps_answer _ _ _ s
  · exact keeps_applyEdit _ hs fun hg => sorted_withSegments hg (Table.sorted_put _ _)

theorem keeps_retireSegment {l : Link} {tag : Tag} {n : Nat} {g : Configuration} {e : Time} {s : State}
    (hs : s.session = .opened l g e) : Keeps s (retireSegment l tag n g s) := by
  rw [retireSegment]
  split
  · exact keeps_answer _ _ _ s
  · split
    · exact keeps_answer _ _ _ s
    · exact keeps_applyEdit _ hs fun hg => sorted_withSegments hg (Table.sorted_remove _)

theorem keeps_setGroup {l : Link} {tag : Tag} {n : Nat} {members : List Handle} {g : Configuration} {e : Time}
    {s : State} (hs : s.session = .opened l g e) : Keeps s (setGroup l tag n members g s) := by
  rw [setGroup]
  split
  · exact keeps_applyEdit _ hs (sorted_setGroup g _ _)
  · exact keeps_answer _ _ _ s

/-! ### The session, transactions and resets -/

/-- A session that keeps its staging view (R39, R44). -/
theorem keeps_sameStaging {s : State} {x : Session} (h : x.staging? = s.session.staging?) :
    Keeps s { s with session := x } :=
  keeps_session fun hs _ hg => sorted_staging hs (h ▸ hg)

theorem keeps_arm {l : Link} {g : Configuration} {e : Time} (tag : Tag) (mode : CommitMode) (d : Option Nat) {s : State}
    (hs : s.session = .opened l g e) : Keeps s (arm l tag mode d g s) := by
  have k := (keptEnd_keeps s).toKeptExam
  exact k.commitIfAtRest (k.armingActions mode (keeps_sameStaging (by rw [hs]; rfl)))

/-- A transaction replaced by one with its slot and its link (R89, R91). -/
theorem keeps_setTxn {t u : Txn} {s : State} (ht : t ∈ s.pool) (slot : u.slot = t.slot)
    (attributed : u.attributed = t.attributed) : Keeps s (s.setTxn u) := by
  refine .pooled fun hs => ?_
  have same : ∀ x ∈ s.pool, x.slot = u.slot → x = t := fun x hx hxu =>
    List.inj_on_of_nodup_map hs.1 hx ht (hxu.trans slot)
  have mapped : (s.pool.map fun x => if x.slot = u.slot then u else x) =
      s.pool.map fun x => if x = t then u else x := by
    refine List.map_congr_left fun x hx => ?_
    by_cases hxt : x = t
    · rw [if_pos hxt, if_pos (by rw [hxt, slot])]
    · rw [if_neg hxt, if_neg fun h => hxt (same x hx h)]
  rw [mapped]
  refine (keeps_mapPool (s := s) (fun x => if x = t then u else x) (fun x => ?_) fun x => ?_).pool hs
  · split
    · next hxt => rw [hxt, slot]
    · rfl
  · split
    · next hxt => rw [hxt, attributed]
    · rfl

theorem keeps_resetBlocks (s : State) : Keeps s (resetBlocks s) := by
  refine ⟨tagsDistinct_congr rfl, fun _ p => ?_, fun _ => ?_, fun h => ?_⟩
  · rw [State.unit, resetBlocks, PerPort.get_map]
    simp [Containment.restarted, Containment.reset, Containment.consistent_iff, CauseSet.isEmpty]
  · exact ⟨List.nodup_nil, fun t ht => absurd ht List.not_mem_nil, fun l => Nat.zero_le _⟩
  · obtain ⟨records, generations, segments, groups, _, _, links⟩ := h
    exact ⟨(Table.sorted_mapValues (fun _ r => Record.softReset r) s.records).trans records, generations, segments,
      groups, rfl, fun _ hg => (by cases hg), links⟩

/-- After power-on the four invariants hold, whatever was before (R182). -/
theorem keeps_powerOn (a : BusAddress) (s : State) : Keeps s (s.powerOn a) := by
  refine ⟨fun _ l => ?_, fun _ p => ?_, fun _ => ?_, fun _ => ?_⟩
  · cases l <;> exact List.nodup_nil
  · rw [State.unit, State.powerOn, PerPort.get_map]
    simp [Containment.restarted, Containment.reset, Containment.consistent_iff, CauseSet.isEmpty]
  · exact ⟨List.nodup_nil, fun t ht => absurd ht List.not_mem_nil, fun l => Nat.zero_le _⟩
  · refine ⟨rfl, rfl, rfl, rfl, rfl, ?_, fun l => ?_⟩
    · intro g hg
      cases hg
    · cases l <;> rfl

theorem keeps_assertRstn (s : State) : Keeps s (assertRstn s) := by
  have off := keeps_powerOn s.linkBAddress s
  refine ⟨fun _ l => ?_, off.containment, off.pool, fun h => ?_⟩
  · cases l <;> exact List.nodup_nil
  · exact tablesSorted_congr (s := s.powerOn s.linkBAddress) ⟨rfl, rfl, rfl, rfl, rfl, rfl⟩
      (fun l _ => by cases l <;> rfl) (off.tables h)

theorem keeps_dropSession (s : State) : Keeps s (dropSession s) :=
  keeps_session fun _ _ h => nomatch h

theorem keeps_setWriteBusy (h : Handle) (w : Option WriteBusy) (s : State) : Keeps s (setWriteBusy h w s) := by
  rw [setWriteBusy]
  split
  · exact keeps_setRuntime _ _ s
  · exact .refl s

/-- Every change that a command is made of keeps the four invariants. -/
theorem keptStep_keeps : KeptStep Keeps Keeps where
  refl := .refl
  trans := .trans
  weaken h := h
  after_setLink hi := (keeps_setLink hi).trans
  after_frame h := (Keeps.of_eq h.links h.units h.pool h.tables).trans
  frame h := .of_eq h.links h.units h.pool h.tables
  fan s := (keptEnd_keeps s).toKeptFan
  on_setLink := keeps_setLink
  on_setUnit := keeps_setUnit
  on_respond := keeps_respond
  on_place origin _ := keeps_place origin
  on_mapPool f := keeps_mapPool f
  on_setTxn := keeps_setTxn
  on_setContext := keeps_setContext
  on_dropContexts f s := keeps_contexts (Table.sorted_filter f)
  on_complete := keeps_complete
  on_removeExamined t o s := (keptEnd_keeps s).removeExamined t o (.refl s)
  on_examine hs s := (keptEnd_keeps s).toKeptExam.examine hs (.refl s)
  on_removeReservation h s := (keptEnd_keeps s).removeReservation h (.refl s)
  on_moveExpiry _ _ _ := .of_eq rfl rfl rfl ⟨rfl, rfl, rfl, rfl, rfl, rfl⟩
  on_reserve _ _ _ _ _ _ _ := .of_eq rfl rfl rfl ⟨rfl, rfl, rfl, rfl, rfl, rfl⟩
  on_operatorEntry h s := (keptEnd_keeps s).toKeptExam.quarantineEntry h .operator (.refl s)
  on_setWriteBusy := keeps_setWriteBusy
  on_probed _ := keeps_setRuntime _ _ _
  on_cleared _ _ := keeps_setRuntime _ _ _
  on_arm := keeps_arm
  on_reopen _ _ hs := keeps_sameStaging (by rw [hs]; rfl)
  on_dropSession := keeps_dropSession
  on_resetBlocks := keeps_resetBlocks
  on_openSession _ _ s _ := (keeps_openSession _ s).trans (keeps_answer _ _ _ _)
  on_addEndpoint _ _ hs _ := keeps_addEndpoint hs
  on_modifyEndpoint _ _ hs _ := keeps_modifyEndpoint hs
  on_retireEndpoint _ _ _ hs := keeps_retireEndpoint hs
  on_addSegment _ _ _ hs := keeps_addSegment hs
  on_retireSegment _ _ hs _ := keeps_retireSegment hs
  on_setGroup _ _ hs _ := keeps_setGroup hs

/-- Every step keeps the four invariants. -/
theorem step_keeps {s t : State} (h : step s = .next t) : Keeps s t :=
  keptStep_keeps.on_anyStep keeps_assertRstn (fun _ _ => keeps_powerOn _ _) h

/-- Settles O53: a tag joins the outstanding ones only where it is not in use, and a response moves it to the queue. -/
theorem tagsStayDistinct : Obligations.TagsStayDistinct := by
  unfold Obligations.TagsStayDistinct
  exact fun s t hs h => (step_keeps h).tags hs

/-- Settles O55: a cause that joins brings HELD, and the last that leaves brings another state. -/
theorem containmentStaysConsistent : Obligations.ContainmentStaysConsistent := by
  unfold Obligations.ContainmentStaysConsistent
  exact fun s t hs h => (step_keeps h).containment hs

/-- Settles O56: every placement passes the slot check first. -/
theorem poolStaysBounded : Obligations.PoolStaysBounded := by
  unfold Obligations.PoolStaysBounded
  exact fun s t hs h => (step_keeps h).pool hs

/-- Settles O57: tables change by insertion, removal and changes of values, which keep the order of the keys. -/
theorem tablesStaySorted : Obligations.TablesStaySorted := by
  unfold Obligations.TablesStaySorted
  exact fun s t hs h => (step_keeps h).tables hs

end Sys2Proof.Machine
end

section
/-! SUPPORT. The directory changes at a commit point alone (R14, R43): what a commit point makes of the configuration,
the generations and the epoch, and that nothing else a command does changes them. -/
namespace Sys2Proof.Machine

/-! ### Generations -/

/-- A generation that is not listed is 0 (R1). -/
theorem find_bumpGeneration (t : Table (BitVec 4)) (k n : Nat) :
    ((bumpGeneration t k).find n).getD 0 = if n = k then (t.find n).getD 0 + 1 else (t.find n).getD 0 := by
  rw [bumpGeneration]
  by_cases hn : n = k
  · subst hn
    rw [if_pos rfl]
    split
    · next zero => rw [Table.find_remove_self, Option.getD_none, zero]
    · rw [Table.find_put_self, Option.getD_some]
  · rw [if_neg hn]
    split
    · rw [Table.find_remove_ne _ _ _ hn]
    · rw [Table.find_put_ne _ _ _ _ hn]

/-- Each of several distinct slots advances by one (R2). -/
theorem find_bumpGenerations {slots : List Nat} (h : slots.Nodup) (t : Table (BitVec 4)) (n : Nat) :
    ((slots.foldl bumpGeneration t).find n).getD 0 =
      if n ∈ slots then (t.find n).getD 0 + 1 else (t.find n).getD 0 := by
  induction slots generalizing t with
  | nil => simp
  | cons k rest ih =>
    obtain ⟨absent, distinct⟩ := List.nodup_cons.mp h
    rw [List.foldl_cons, ih distinct, find_bumpGeneration]
    by_cases hn : n = k
    · subst hn
      simp [absent]
    · simp [hn]

/-- The slots that a staging view retires are LIVE in the committed view and FREE in it (R38). -/
theorem mem_retiring {s : State} {g : Configuration} {n : Nat} :
    n ∈ s.retiring g ↔ (s.records.find n).isSome = true ∧ g.endpoints.find n = none := by
  have live : n ∈ s.records.map Prod.fst ↔ (s.records.find n).isSome = true := by
    rw [← Option.ne_none_iff_isSome, Ne, Table.find_eq_none_iff]
    simp only [List.mem_map, ne_eq, not_forall, not_not, exists_prop]
  rw [State.retiring, List.mem_filter, live, Option.isNone_iff_eq_none]

theorem nodup_retiring {s : State} (h : s.records.sorted = true) (g : Configuration) : (s.retiring g).Nodup :=
  (Table.nodup_keys h).filter _

/-- The generations after a commit point (R2, R43). -/
theorem generation_installStaging {s : State} (h : s.records.sorted = true) (g : Configuration) (n : Nat) :
    (installStaging g s).generation n =
      if (s.records.find n).isSome = true ∧ g.endpoints.find n = none then s.generation n + 1 else s.generation n := by
  rw [State.generation, installStaging]
  dsimp only
  rw [find_bumpGenerations (nodup_retiring h g)]
  simp only [mem_retiring, State.generation]

/-! ### The directory -/

/-- The committed configuration, the generations and the epoch are the same. -/
structure SameDirectory (s t : State) : Prop where
  epoch : t.epoch = s.epoch
  segments : t.segments = s.segments
  groups : t.groups = s.groups
  generations : t.generations = s.generations
  configs : ∀ n, (t.records.find n).map Record.config = (s.records.find n).map Record.config

/-- The commit point of a configuration has been taken (R43). -/
structure TookCommitPoint (g : Configuration) (s t : State) : Prop where
  session : t.session = .absent
  epoch : t.epoch = s.epoch + 1
  segments : t.segments = g.segments
  groups : t.groups = g.groups
  configs : ∀ n, (t.records.find n).map Record.config = g.endpoints.find n
  generations : ∀ n, t.generation n =
    if (s.records.find n).isSome = true ∧ g.endpoints.find n = none then s.generation n + 1 else s.generation n

theorem SameDirectory.refl (s : State) : SameDirectory s s :=
  ⟨rfl, rfl, rfl, rfl, fun _ => rfl⟩

theorem SameDirectory.trans {s t u : State} (h : SameDirectory s t) (g : SameDirectory t u) : SameDirectory s u :=
  ⟨g.epoch.trans h.epoch, g.segments.trans h.segments, g.groups.trans h.groups, g.generations.trans h.generations,
    fun n => (g.configs n).trans (h.configs n)⟩

theorem SameDirectory.of_eq {s t : State} (epoch : t.epoch = s.epoch) (segments : t.segments = s.segments)
    (groups : t.groups = s.groups) (generations : t.generations = s.generations) (records : t.records = s.records) :
    SameDirectory s t :=
  ⟨epoch, segments, groups, generations, fun n => by rw [records]⟩

theorem SameDirectory.live {s t : State} (h : SameDirectory s t) (n : Nat) :
    (t.records.find n).isSome = (s.records.find n).isSome := by
  rw [← Option.isSome_map (f := Record.config), h.configs, Option.isSome_map]

theorem SameDirectory.generation {s t : State} (h : SameDirectory s t) (n : Nat) :
    t.generation n = s.generation n := by
  rw [State.generation, State.generation, h.generations]

theorem TookCommitPoint.after {g : Configuration} {s t u : State} (h : SameDirectory s t)
    (c : TookCommitPoint g t u) : TookCommitPoint g s u := by
  refine ⟨c.session, by rw [c.epoch, h.epoch], c.segments, c.groups, c.configs, fun n => ?_⟩
  rw [c.generations n, h.live, h.generation]

theorem TookCommitPoint.before {g : Configuration} {s t u : State} (c : TookCommitPoint g s t)
    (h : SameDirectory t u) (session : u.session = .absent) : TookCommitPoint g s u :=
  ⟨session, h.epoch.trans c.epoch, h.segments.trans c.segments, h.groups.trans c.groups,
    fun n => (h.configs n).trans (c.configs n), fun n => (h.generation n).trans (c.generations n)⟩

/-- What the changes within a command make of the directory: it is the same, with the same staging view or with no
session, or the commit point of the staging view has been taken. -/
inductive DirectoryFlow (s t : State) : Prop where
  | kept (same : SameDirectory s t) (session : t.session.staging? = s.session.staging? ∨ t.session = .absent)
  | committed (g : Configuration) (staging : s.session.staging? = some g) (took : TookCommitPoint g s t)

/-- What a command makes of the directory. -/
inductive DirectoryStep (s t : State) : Prop where
  | kept (same : SameDirectory s t)
  | committed (g : Configuration) (staging : s.session.staging? = some g) (took : TookCommitPoint g s t)

theorem absent_of_staging {x : Session} (h : x.staging? = none) : x = .absent := by
  cases x with
  | absent => rfl
  | opened _ _ _ => exact absurd h (by simp [Session.staging?])
  | armed _ _ _ => exact absurd h (by simp [Session.staging?])

theorem DirectoryFlow.refl (s : State) : DirectoryFlow s s :=
  .kept (.refl s) (.inl rfl)

theorem DirectoryFlow.trans {s t u : State} (h : DirectoryFlow s t) (f : DirectoryFlow t u) : DirectoryFlow s u := by
  cases h with
  | kept same session =>
    cases f with
    | kept same' session' =>
      refine .kept (same.trans same') ?_
      rcases session' with eq | absent
      · rcases session with eq' | absent'
        · exact .inl (eq.trans eq')
        · exact .inr (absent_of_staging (by rw [eq, absent']; rfl))
      · exact .inr absent
    | committed g staging took =>
      rcases session with eq | absent
      · exact .committed g (eq ▸ staging) (took.after same)
      · rw [absent] at staging
        exact absurd staging (by simp [Session.staging?])
  | committed g staging took =>
    cases f with
    | kept same' session' =>
      refine .committed g staging (took.before same' ?_)
      rcases session' with eq | absent
      · exact absent_of_staging (by rw [eq, took.session]; rfl)
      · exact absent
    | committed g' staging' _ =>
      rw [took.session] at staging'
      exact absurd staging' (by simp [Session.staging?])

theorem DirectoryFlow.step {s t : State} (h : DirectoryFlow s t) : DirectoryStep s t := by
  cases h with
  | kept same _ => exact .kept same
  | committed g staging took => exact .committed g staging took

/-- A change of neither the directory nor the session. -/
theorem DirectoryFlow.of_eq {s t : State} (tables : SameTables s t) (epoch : t.epoch = s.epoch) :
    DirectoryFlow s t :=
  .kept (.of_eq epoch tables.segments tables.groups tables.generations tables.records) (.inl (by rw [tables.session]))

/-- What happens before a command's own part leaves the directory and the session, so that the command is judged from
there as from the start. -/
theorem DirectoryStep.after {s t u : State} (tables : SameTables s t) (epoch : t.epoch = s.epoch)
    (h : DirectoryStep t u) : DirectoryStep s u := by
  have same : SameDirectory s t := .of_eq epoch tables.segments tables.groups tables.generations tables.records
  cases h with
  | kept same' => exact .kept (same.trans same')
  | committed g staging took => exact .committed g (tables.session ▸ staging) (took.after same)

/-! ### The changes within a command -/

theorem sameTables_respond (l : Link) (tag : Tag) (o : Status) (d : List Byte) (s : State) :
    SameTables s (respond l tag o d s) :=
  ⟨respond_records .., respond_generations .., respond_segments .., respond_groups .., respond_contexts ..,
    respond_session ..⟩

theorem sameDirectory_respond (l : Link) (tag : Tag) (o : Status) (d : List Byte) (s : State) :
    SameDirectory s (respond l tag o d s) :=
  .of_eq (respond_epoch ..) (respond_segments ..) (respond_groups ..) (respond_generations ..) (respond_records ..)

theorem directory_respond (l : Link) (tag : Tag) (o : Status) (d : List Byte) (s : State) :
    DirectoryFlow s (respond l tag o d s) :=
  .kept (sameDirectory_respond l tag o d s) (.inl (by rw [respond_session]))

/-- A runtime part is no part of the configuration (R13). -/
theorem sameDirectory_setRuntime (h : Handle) (rt : Runtime) (s : State) : SameDirectory s (s.setRuntime h rt) := by
  rw [State.setRuntime]
  split
  · next r hr =>
    refine ⟨rfl, rfl, rfl, rfl, fun n => ?_⟩
    have found : s.records.find h.slot = some r := by
      rw [State.record?] at hr
      split at hr
      · exact hr
      · exact absurd hr (by simp)
    rw [Table.find_put]
    split
    · next eq => rw [eq, found]; rfl
    · rfl
  · exact .refl s

theorem setRuntime_session (h : Handle) (rt : Runtime) (s : State) : (s.setRuntime h rt).session = s.session := by
  rw [State.setRuntime]
  split <;> rfl

theorem directory_setRuntime (h : Handle) (rt : Runtime) (s : State) : DirectoryFlow s (s.setRuntime h rt) :=
  .kept (sameDirectory_setRuntime h rt s) (.inl (by rw [setRuntime_session]))

/-- The commit point installs the staging view (R43). -/
theorem directory_installStaging {s : State} {g : Configuration} (h : s.records.sorted = true)
    (hg : s.session.staging? = some g) : DirectoryFlow s (installStaging g s) := by
  refine .committed g hg ⟨rfl, rfl, rfl, rfl, fun n => ?_, generation_installStaging h g⟩
  rw [installStaging]
  dsimp only
  rw [Table.find_mapValues, Option.map_map]
  cases g.endpoints.find n with
  | none => rfl
  | some c =>
    rw [Option.map_some, Function.comp_apply, State.committedRecord]
    split <;> rfl

/-- From canonical tables, the directory is as `DirectoryFlow` says and the tables are canonical. -/
def DirectoryKept (s t : State) : Prop :=
  s.tablesSorted → t.tablesSorted ∧ DirectoryFlow s t

theorem DirectoryKept.trans {s t u : State} (h : DirectoryKept s t) (g : DirectoryKept t u) : DirectoryKept s u :=
  fun hs => ⟨(g (h hs).1).1, (h hs).2.trans (g (h hs).1).2⟩

theorem DirectoryKept.of_flow {s t : State} (k : Keeps s t) (h : DirectoryFlow s t) : DirectoryKept s t :=
  fun hs => ⟨k.tables hs, h⟩

/-- A placement changes the pool alone (R50). -/
theorem place_eq (origin : Origin) (l : Link) (h : Handle) (cfg : EndpointConfig) (op : Operation)
    (index : Option (BitVec 24)) (length : Option Nat) (data : List Byte) (deadline : Time) (s : State) :
    ∃ ts, place origin l h cfg op index length data deadline s = { s with pool := ts } := by
  rw [place]
  split
  · exact ⟨s.pool, rfl⟩
  · exact ⟨_, rfl⟩

theorem directory_place (origin : Origin) (l : Link) (h : Handle) (cfg : EndpointConfig) (op : Operation)
    (index : Option (BitVec 24)) (length : Option Nat) (data : List Byte) (deadline : Time) (s : State) :
    DirectoryFlow s (place origin l h cfg op index length data deadline s) := by
  obtain ⟨ts, eq⟩ := place_eq origin l h cfg op index length data deadline s
  rw [eq]
  exact .of_eq ⟨rfl, rfl, rfl, rfl, rfl, rfl⟩ rfl

/-- Everything below a completion changes the directory at a commit point alone. -/
theorem keptEnd_directory (s : State) : KeptEnd (DirectoryKept s) where
  waiting ws h := h.trans (.of_flow ((keptEnd_keeps _).waiting ws (.refl _)) (.kept (.of_eq rfl rfl rfl rfl rfl)
      (.inl rfl)))
  setContext _ _ _ h := h.trans (.of_flow (keeps_setContext _ _ _) (.kept (.of_eq rfl rfl rfl rfl rfl) (.inl rfl)))
  closeContext d hx h := h.trans (.of_flow ((keptEnd_keeps _).closeContext d hx (.refl _))
    ((directory_respond _ _ _ _ _).trans (.kept (.of_eq rfl rfl rfl rfl rfl) (.inl rfl))))
  placeMember _ _ _ _ _ _ _ _ _ _ open_ _ h :=
    h.trans (.of_flow (keeps_place _ _ _ _ _ _ _ _ open_) (directory_place _ _ _ _ _ _ _ _ _ _))
  dropSlot n h := h.trans (.of_flow (keeps_withoutSlot n _) (.kept (.of_eq rfl rfl rfl rfl rfl) (.inl rfl)))
  respond _ _ _ _ h := h.trans (.of_flow (keeps_respond _ _ _ _ _) (directory_respond _ _ _ _ _))
  raise _ _ _ h := h.trans (.of_flow (keeps_raise _ _ _ _) (.kept (.of_eq rfl rfl rfl rfl rfl) (.inl rfl)))
  setRuntime _ _ h := h.trans (.of_flow (keeps_setRuntime _ _ _) (directory_setRuntime _ _ _))
  removeReservation x h := h.trans (.of_flow ((keptEnd_keeps _).removeReservation x (.refl _))
    (.kept (.of_eq rfl rfl rfl rfl rfl) (.inl rfl)))
  installStaging hs h := h.trans fun sorted =>
    have staging := congrArg Session.staging? hs
    ⟨(keeps_installStaging staging).tables sorted, directory_installStaging sorted.1 staging⟩

theorem DirectoryKept.refl (s : State) : DirectoryKept s s :=
  fun hs => ⟨hs, .refl s⟩

/-- A change of a write-busy form is a change of a runtime part, or none (R99). -/
theorem setWriteBusy_eq (h : Handle) (w : Option WriteBusy) (s : State) :
    setWriteBusy h w s = s ∨ ∃ r, s.record? h = some r ∧
      setWriteBusy h w s = s.setRuntime h { r.runtime with writeBusy := w } := by
  rw [setWriteBusy]
  split
  · next r hr => exact .inr ⟨r, hr, rfl⟩
  · exact .inl rfl

theorem directory_setWriteBusy (h : Handle) (w : Option WriteBusy) (s : State) :
    DirectoryFlow s (setWriteBusy h w s) := by
  rcases setWriteBusy_eq h w s with eq | ⟨r, _, eq⟩
  · rw [eq]
    exact .refl s
  · rw [eq]
    exact directory_setRuntime _ _ s

/-! ### Commands -/

theorem DirectoryStep.of_respond {l : Link} {tag : Tag} {o : Status} {d : List Byte} {s t : State}
    (h : SameDirectory s t) : DirectoryStep s (respond l tag o d t) :=
  .kept (h.trans (sameDirectory_respond ..))

/-- An edit changes the staging view alone (R14, R29). -/
theorem directory_applyEdit (l : Link) (tag : Tag) (g : Configuration) (d : List Byte) (s : State) :
    DirectoryStep s (applyEdit l tag g d s) :=
  .of_respond (.of_eq rfl rfl rfl rfl rfl)

/-- SOFT_RESET keeps the committed configuration (R23). -/
theorem sameDirectory_resetBlocks (s : State) : SameDirectory s (resetBlocks s) := by
  refine ⟨rfl, rfl, rfl, rfl, fun n => ?_⟩
  rw [resetBlocks]
  dsimp only
  rw [Table.find_mapValues, Option.map_map]
  rfl

/-- SOFT_RESET ends the session (R46). -/
theorem directory_resetBlocks (s : State) : DirectoryFlow s (resetBlocks s) :=
  .kept (sameDirectory_resetBlocks s) (.inr rfl)

/-- No change that a command but RSTN is made of reaches the directory, but for the commit point. -/
theorem keptStep_directory :
    KeptStep DirectoryKept (fun s t => s.tablesSorted → DirectoryStep s t) where
  refl := .refl
  trans := .trans
  weaken h hs := (h hs).2.step
  after_setLink := fun {s l i _} hi h hs =>
    .after (t := s.setLink l i) ⟨rfl, rfl, rfl, rfl, rfl, rfl⟩ rfl (h ((keeps_setLink hi).tables hs))
  after_frame f h hs := (h ((keptStep_keeps.frame f).tables hs)).after f.tables f.epoch
  frame f := .of_flow (keptStep_keeps.frame f) (.of_eq f.tables f.epoch)
  fan s := (keptEnd_directory s).toKeptFan
  on_setLink hi := .of_flow (keeps_setLink hi) (.kept (.of_eq rfl rfl rfl rfl rfl) (.inl rfl))
  on_setUnit hu := .of_flow (keeps_setUnit hu) (.kept (.of_eq rfl rfl rfl rfl rfl) (.inl rfl))
  on_respond _ _ _ _ _ := .of_flow (keeps_respond ..) (directory_respond ..)
  on_place _ _ _ _ _ _ _ _ _ _ open_ := .of_flow (keeps_place _ _ _ _ _ _ _ _ open_) (directory_place ..)
  on_mapPool f h1 h2 := .of_flow (keeps_mapPool f h1 h2) (.kept (.of_eq rfl rfl rfl rfl rfl) (.inl rfl))
  on_setTxn ht h1 h2 := .of_flow (keeps_setTxn ht h1 h2) (.kept (.of_eq rfl rfl rfl rfl rfl) (.inl rfl))
  on_setContext _ _ _ := .of_flow (keeps_setContext ..) (.kept (.of_eq rfl rfl rfl rfl rfl) (.inl rfl))
  on_dropContexts f s := .of_flow (keptStep_keeps.on_dropContexts f s) (.kept (.of_eq rfl rfl rfl rfl rfl) (.inl rfl))
  on_complete p o d s := (keptEnd_directory s).complete p o d
    (fun e => .of_flow (keeps_setEngine p e s) (.kept (.of_eq rfl rfl rfl rfl rfl) (.inl rfl))) (.refl s)
  on_removeExamined t o s := (keptEnd_directory s).removeExamined t o (.refl s)
  on_examine hs s := (keptEnd_directory s).toKeptExam.examine hs (.refl s)
  on_removeReservation h s := (keptEnd_directory s).removeReservation h (.refl s)
  on_moveExpiry h e s := .of_flow (keptStep_keeps.on_moveExpiry h e s) (.kept (.of_eq rfl rfl rfl rfl rfl) (.inl rfl))
  on_reserve l e _ _ _ hr ha := .of_flow (keptStep_keeps.on_reserve l e hr ha)
    (.kept (.of_eq rfl rfl rfl rfl rfl) (.inl rfl))
  on_operatorEntry h s := (keptEnd_directory s).toKeptExam.quarantineEntry h .operator (.refl s)
  on_setWriteBusy _ _ _ := .of_flow (keeps_setWriteBusy ..) (directory_setWriteBusy ..)
  on_probed _ := .of_flow (keeps_setRuntime ..) (directory_setRuntime ..)
  on_cleared _ _ := .of_flow (keeps_setRuntime ..) (directory_setRuntime ..)
  on_arm tag mode d s hs := by
    have k := (keptEnd_directory s).toKeptExam
    have staging := (congrArg Session.staging? hs).symm
    exact k.commitIfAtRest (k.armingActions mode
      (.of_flow (keeps_sameStaging staging) (.kept (.of_eq rfl rfl rfl rfl rfl) (.inl staging))))
  on_reopen e s hs :=
    have staging := (congrArg Session.staging? hs).symm
    .of_flow (keeps_sameStaging staging) (.kept (.of_eq rfl rfl rfl rfl rfl) (.inl staging))
  on_dropSession s := .of_flow (keeps_dropSession s) (.kept (.of_eq rfl rfl rfl rfl rfl) (.inr rfl))
  on_resetBlocks s := .of_flow (keeps_resetBlocks s) (directory_resetBlocks s)
  on_openSession _ _ _ _ _ := .of_respond (.of_eq rfl rfl rfl rfl rfl)
  on_addEndpoint _ _ _ _ _ := addEndpoint_cases (fun _ => .of_respond (.refl _)) (directory_applyEdit _ _ · · _) _
  on_modifyEndpoint _ _ _ _ _ := modifyEndpoint_cases (fun _ => .of_respond (.refl _))
      (directory_applyEdit _ _ · · _) _ _
  on_retireEndpoint _ _ _ _ _ := retireEndpoint_cases (fun _ => .of_respond (.refl _)) (directory_applyEdit _ _ · · _) _
  on_addSegment _ _ _ _ _ := addSegment_cases (fun _ => .of_respond (.refl _)) (directory_applyEdit _ _ · · _) _
  on_retireSegment _ _ _ _ _ := retireSegment_cases (fun _ => .of_respond (.refl _)) (directory_applyEdit _ _ · · _) _
  on_setGroup _ _ _ _ _ := setGroup_cases (fun _ => .of_respond (.refl _)) (directory_applyEdit _ _ · · _) _ _

/-- Settles O58: the commit point is the one change of the directory that a command is made of. -/
theorem directoryChangesOnlyAtACommitPoint : Obligations.DirectoryChangesOnlyAtACommitPoint := by
  unfold Obligations.DirectoryChangesOnlyAtACommitPoint
  intro s t hs hc h
  cases keptStep_directory.on_step hc h hs with
  | kept same => exact .inl ⟨same.epoch, same.segments, same.groups, same.generation, same.configs⟩
  | committed g staging took =>
    exact .inr ⟨g, staging, took.session, took.epoch, took.segments, took.groups, took.configs, took.generations⟩

end Sys2Proof.Machine
end

section
/-! SUPPORT. What the readers of the parameter blocks accept (R184 to R187), and that the endpoint record block reads
back (R184). -/
namespace Sys2Proof.Machine

/-! ### Fields -/

theorem within_eq_some {low high n m : Nat} : within low high n = some m ↔ m = n ∧ low ≤ n ∧ n ≤ high := by
  rw [within]
  split
  · next h => simp [h, eq_comm]
  · next h => simp [h]

theorem byteOf_toNat {n : Nat} (h : n < 256) : (byteOf n).toNat = n := by
  rw [byteOf, BitVec.toNat_ofNat]
  exact Nat.mod_eq_of_lt h

/-- A bus address field reads as an address of the two-wire range (00_scope.md 4.2). -/
theorem range_of_address {b : Byte} {a : BusAddress} (h : address? b = some a) :
    0x08 ≤ a.toNat ∧ a.toNat ≤ 0x77 := by
  rw [address?] at h
  split at h
  · next range =>
    rw [← Option.some.inj h, BitVec.toNat_setWidth, Nat.mod_eq_of_lt (by omega)]
    exact range
  · exact absurd h (by simp)

theorem address_setWidth {a : BusAddress} (h : 0x08 ≤ a.toNat ∧ a.toNat ≤ 0x77) : address? (a.setWidth 8) = some a := by
  have value : (a.setWidth 8).toNat = a.toNat := by
    rw [BitVec.toNat_setWidth, Nat.mod_eq_of_lt (by omega)]
  rw [address?, value, if_pos h]
  congr 1
  apply BitVec.eq_of_toNat_eq
  rw [BitVec.toNat_setWidth, value, Nat.mod_eq_of_lt (by omega)]

theorem window_of_recovery {mode window : Byte} {r : Recovery} (h : recovery? mode window = some r) :
    ∀ w, r.window? = some w → 1 ≤ w ∧ w ≤ 100 := by
  intro w hw
  unfold recovery? at h
  split at h
  · split at h
    · rw [← Option.some.inj h] at hw
      exact absurd hw (by simp [Recovery.window?])
    · exact absurd h (by simp)
  · obtain ⟨v, hv, rfl⟩ := Option.map_eq_some_iff.mp h
    obtain ⟨rfl, range⟩ := within_eq_some.mp hv
    rwa [← Option.some.inj hw]
  · obtain ⟨v, hv, rfl⟩ := Option.map_eq_some_iff.mp h
    obtain ⟨rfl, range⟩ := within_eq_some.mp hv
    rwa [← Option.some.inj hw]
  · exact absurd h (by simp)

theorem recovery_bytes {r : Recovery} (h : ∀ w, r.window? = some w → 1 ≤ w ∧ w ≤ 100) :
    recovery? (byteOf r.mode.num) (byteOf (r.window?.getD 0)) = some r := by
  cases r with
  | none => rfl
  | timed w =>
    have range := h w rfl
    have value : within 1 100 (byteOf w).toNat = some w := by
      rw [byteOf_toNat (by omega)]
      exact within_eq_some.mpr ⟨rfl, range⟩
    exact congrArg (Option.map Recovery.timed) value
  | poll w =>
    have range := h w rfl
    have value : within 1 100 (byteOf w).toNat = some w := by
      rw [byteOf_toNat (by omega)]
      exact within_eq_some.mpr ⟨rfl, range⟩
    exact congrArg (Option.map Recovery.poll) value

theorem speed_byte (v : SpeedClass) : speed? (byteOf v.num) = some v := by
  cases v <;> rfl

theorem access_byte (x : Access) : access? (byteOf x.num) = some x := by
  cases x <;> rfl

/-- The four bytes of a label, put together (R184). -/
theorem labelBytes_append (x : BitVec 32) :
    (x.extractLsb' 24 8 ++ x.extractLsb' 16 8 ++ x.extractLsb' 8 8 ++ x.extractLsb' 0 8 : BitVec 32) = x := by
  apply BitVec.eq_of_getLsbD_eq
  intro i hi
  simp only [BitVec.getLsbD_append, BitVec.getLsbD_extractLsb']
  grind

/-! ### The endpoint record block -/

/-- A block that reads at all has 16 bytes, and the part that it reads as is in range (R4, R184). -/
theorem inRange_of_recordBlock {ps : List Byte} {c : EndpointConfig} (h : recordBlock? ps = some c) :
    ps.length = 16 ∧ c.inRange := by
  unfold recordBlock? at h
  split at h
  · simp only [Option.bind_eq_bind, Option.bind_eq_some_iff, Option.pure_def, Option.some.injEq] at h
    obtain ⟨segment, hsegment, address, haddress, width, hwidth, speed, _, accessA, _, accessB, _, retries, hretries,
      recovery, hrecovery, weight, hweight, threshold, hthreshold, label, _, rfl⟩ := h
    obtain ⟨rfl, segmentRange⟩ := within_eq_some.mp hsegment
    obtain ⟨rfl, widthRange⟩ := within_eq_some.mp hwidth
    obtain ⟨rfl, retryRange⟩ := within_eq_some.mp hretries
    obtain ⟨rfl, weightRange⟩ := within_eq_some.mp hweight
    obtain ⟨rfl, thresholdRange⟩ := within_eq_some.mp hthreshold
    have haddress := range_of_address haddress
    exact ⟨rfl, segmentRange.2, haddress.1, haddress.2, widthRange.2, retryRange.2, window_of_recovery hrecovery,
      weightRange.1, weightRange.2, thresholdRange.1, thresholdRange.2⟩
  · exact absurd h (by simp)

/-- The five bytes of the label field (R184). -/
def labelField : Option (BitVec 32) → List Byte
  | none => [0, 0, 0, 0, 0]
  | some x => 1 :: labelBytes x

theorem recordBytes_eq (c : EndpointConfig) :
    recordBytes c = [byteOf c.segment, c.address.setWidth 8, byteOf c.indexWidth, byteOf c.speed.num,
      byteOf c.accessA.num, byteOf c.accessB.num, byteOf c.retryLimit, byteOf c.recovery.mode.num,
      byteOf (c.recovery.window?.getD 0), byteOf c.weight, byteOf c.threshold] ++ labelField c.label := by
  rw [recordBytes]
  cases c.label <;> rfl

theorem label_bytes (label : Option (BitVec 32)) : ∃ b0 b1 b2 b3 b4,
    labelField label = [b0, b1, b2, b3, b4] ∧ label? b0 b1 b2 b3 b4 = some label := by
  cases label with
  | none => exact ⟨0, 0, 0, 0, 0, rfl, rfl⟩
  | some x =>
    refine ⟨1, _, _, _, _, rfl, ?_⟩
    exact congrArg (fun y => some (some y)) (labelBytes_append x)

/-- The block of a part in range reads back as the part (R184). -/
theorem recordBlock_recordBytes {c : EndpointConfig} (h : c.inRange) : recordBlock? (recordBytes c) = some c := by
  obtain ⟨hsegment, haddress, haddress', hwidth, hretries, hrecovery, hweight, hweight', hthreshold, hthreshold'⟩ := h
  obtain ⟨b0, b1, b2, b3, b4, bytes, label⟩ := label_bytes c.label
  have field : ∀ {low high n : Nat}, low ≤ n → n ≤ high → high < 256 → within low high (byteOf n).toNat = some n :=
    fun hl hh hb => by
      rw [byteOf_toNat (by omega)]
      exact within_eq_some.mpr ⟨rfl, hl, hh⟩
  rw [recordBytes_eq, bytes]
  simp only [recordBlock?, List.cons_append, List.nil_append, field (Nat.zero_le _) hsegment (by decide),
    address_setWidth ⟨haddress, haddress'⟩, field (Nat.zero_le _) hwidth (by decide), speed_byte, access_byte,
    field (Nat.zero_le _) hretries (by decide), recovery_bytes hrecovery, field hweight hweight' (by decide),
    field hthreshold hthreshold' (by decide), label, Option.bind_eq_bind, Option.bind_some, Option.pure_def]

/-- Settles O8: each field's byte reads back as the field, and each reader accepts its range alone. -/
theorem recordBlockRoundTrip : Obligations.RecordBlockRoundTrip := by
  unfold Obligations.RecordBlockRoundTrip
  exact ⟨fun c hc => recordBlock_recordBytes hc, fun ps c h => inRange_of_recordBlock h⟩

/-! ### Other blocks -/

theorem inRange_of_modifyBlock {ps : List Byte} {h : Handle} {c : EndpointConfig} (hb : modifyBlock? ps = some (h, c)) :
    h.slot < 128 ∧ c.inRange := by
  unfold modifyBlock? at hb
  split at hb
  · simp only [Option.bind_eq_bind, Option.bind_eq_some_iff, Option.pure_def, Option.some.injEq, Prod.mk.injEq] at hb
    obtain ⟨h', hh, c', hc, rfl, rfl⟩ := hb
    refine ⟨?_, (inRange_of_recordBlock hc).2⟩
    rw [handle?] at hh
    split at hh
    · next range =>
      rw [← Option.some.inj hh]
      exact range.1
    · exact absurd hh (by simp)
  · exact absurd hb (by simp)

theorem range_of_retireSegmentBlock {ps : List Byte} {n : Nat} (hb : retireSegmentBlock? ps = some n) :
    6 ≤ n ∧ n ≤ 31 := by
  unfold retireSegmentBlock? at hb
  split at hb
  · obtain ⟨rfl, range⟩ := within_eq_some.mp hb
    exact range
  · exact absurd hb (by simp)

/-- The member list of a SET_GROUP names no handle twice and at most 12 (R12, R35). -/
theorem range_of_setGroupBlock {ps : List Byte} {n : Nat} {hs : List Handle} (hb : setGroupBlock? ps = some (n, hs)) :
    n ≤ 15 ∧ hs.length ≤ 12 ∧ hs.Nodup := by
  unfold setGroupBlock? at hb
  split at hb
  · simp only [Option.bind_eq_bind, Option.bind_eq_some_iff, Option.pure_def] at hb
    obtain ⟨g, hg, m, hm, members, _, hb⟩ := hb
    obtain ⟨rfl, groupRange⟩ := within_eq_some.mp hg
    obtain ⟨rfl, countRange⟩ := within_eq_some.mp hm
    split at hb
    · next valid =>
      obtain ⟨rfl, rfl⟩ := Prod.mk.inj (Option.some.inj hb)
      exact ⟨groupRange.2, by omega, valid.2⟩
    · exact absurd hb (by simp)
  · exact absurd hb (by simp)

end Sys2Proof.Machine
end

section
/-! SUPPORT. The laws of a view (R6, R11, R12) through the edits of the staging view (R30 to R35). -/
namespace Sys2Proof.Machine

variable {g : Configuration} {generation : Nat → BitVec 4}

/-! ### Generations -/

/-- The laws ask for the generations of the slots that are LIVE in the view alone. -/
theorem lawful_generation {generation' : Nat → BitVec 4} (h : g.lawful generation)
    (same : ∀ n, (g.endpoints.find n).isSome = true → generation' n = generation n) : g.lawful generation' := by
  obtain ⟨endpoints, segments, groups⟩ := h
  refine ⟨endpoints, segments, fun m hm => ?_⟩
  obtain ⟨number, nonempty, few, distinct, members⟩ := groups m hm
  refine ⟨number, nonempty, few, distinct, fun h hh => ?_⟩
  obtain ⟨valid, live⟩ := members h hh
  exact ⟨(same _ live).trans valid, live⟩

/-! ### Records -/

/-- What the checks of ADD_ENDPOINT and MODIFY_ENDPOINT establish (R30, R31). -/
theorem recordRefusal_eq_none {own : Option Nat} {c : EndpointConfig} (h : recordRefusal g own c = none) :
    segmentPresent g.segments c.segment = true ∧
      (∀ d ∈ g.endpoints, some d.1 ≠ own →
        ¬ (d.2.segment = c.segment ∧ d.2.address = c.address) ∧ (c.label ≠ none → d.2.label ≠ c.label)) ∧
      ∀ x ∈ g.segments, x.2.port = portOfSegment g.segments c.segment → x.2.mux ≠ c.address := by
  rw [recordRefusal] at h
  split at h
  · exact absurd h (by simp)
  · next present =>
    split at h
    · exact absurd h (by simp)
    · next location =>
      split at h
      · exact absurd h (by simp)
      · next label =>
        split at h
        · exact absurd h (by simp)
        · next conflict =>
          refine ⟨by simpa using present, fun d hd other => ⟨fun same => location ?_, fun some_ same => label ?_⟩,
            fun x hx port mux => conflict ?_⟩
          · simp only [List.any_eq_true, List.mem_filter, decide_eq_true_eq]
            exact ⟨d, ⟨hd, other⟩, by simpa [EndpointConfig.sameRoute] using same⟩
          · simp only [Bool.and_eq_true, List.any_eq_true, List.mem_filter, decide_eq_true_eq]
            exact ⟨by simpa [Option.isSome_iff_ne_none] using some_, d, ⟨hd, other⟩, same⟩
          · simp only [List.any_eq_true, decide_eq_true_eq]
            exact ⟨x, hx, port, mux⟩

/-- A configuration part that passes the checks may stand in a slot (R30, R31). -/
theorem lawful_putEndpoint {n : Nat} {c : EndpointConfig} (sorted : g.endpoints.sorted = true)
    (h : g.lawful generation) (slot : n < 128) (range : c.inRange)
    (present : segmentPresent g.segments c.segment = true)
    (others : ∀ d ∈ g.endpoints, d.1 ≠ n →
      ¬ (d.2.segment = c.segment ∧ d.2.address = c.address) ∧ (c.label ≠ none → d.2.label ≠ c.label))
    (muxes : ∀ x ∈ g.segments, x.2.port = portOfSegment g.segments c.segment → x.2.mux ≠ c.address) :
    ({ g with endpoints := g.endpoints.put n c } : Configuration).lawful generation := by
  obtain ⟨endpoints, segments, groups⟩ := h
  refine ⟨fun e he => ?_, segments, fun m hm => ?_⟩
  · rcases (Table.mem_put_iff sorted).mp he with rfl | ⟨he, hn⟩
    · refine ⟨slot, range, present, fun d hd other => ?_, muxes⟩
      rcases (Table.mem_put_iff sorted).mp hd with rfl | ⟨hd, _⟩
      · exact absurd rfl other
      · exact others d hd other
    · obtain ⟨slot', range', present', others', muxes'⟩ := endpoints e he
      refine ⟨slot', range', present', fun d hd other => ?_, muxes'⟩
      rcases (Table.mem_put_iff sorted).mp hd with rfl | ⟨hd, _⟩
      · obtain ⟨location, label⟩ := others e he hn
        exact ⟨fun ⟨h1, h2⟩ => location ⟨h1.symm, h2.symm⟩, fun some_ same => label (by rwa [same]) same.symm⟩
      · exact others' d hd other
  · obtain ⟨number, nonempty, few, distinct, members⟩ := groups m hm
    refine ⟨number, nonempty, few, distinct, fun h hh => ?_⟩
    obtain ⟨valid, live⟩ := members h hh
    refine ⟨valid, ?_⟩
    dsimp only
    rw [Table.find_put]
    split
    · rfl
    · exact live

/-- The entries of the groups without a handle: each is the filtered list of a group, and not empty (R12). -/
theorem mem_groupsWithout {h : Handle} {groups : Table (List Handle)} {m : Nat × List Handle}
    (hm : m ∈ groupsWithout h groups) :
    ∃ hs, (m.1, hs) ∈ groups ∧ m.2 = (hs.filter fun x => decide (x ≠ h)) ∧ m.2 ≠ [] := by
  rw [groupsWithout, List.mem_filter, Table.mapValues, List.mem_map] at hm
  obtain ⟨⟨e, he, rfl⟩, nonempty⟩ := hm
  exact ⟨e.2, he, rfl, by simpa [List.isEmpty_iff] using nonempty⟩

/-- A record that leaves the view leaves its groups (R12, R32). -/
theorem lawful_retireEndpoint {h : Handle} (valid : generation h.slot = h.gen) (hl : g.lawful generation) :
    ({ g with endpoints := g.endpoints.remove h.slot, groups := groupsWithout h g.groups } : Configuration).lawful
      generation := by
  obtain ⟨endpoints, segments, groups⟩ := hl
  refine ⟨fun e he => ?_, segments, fun m hm => ?_⟩
  · obtain ⟨slot, range, present, others, muxes⟩ := endpoints e ((Table.mem_remove_iff _).mp he).1
    exact ⟨slot, range, present, fun d hd => others d ((Table.mem_remove_iff _).mp hd).1, muxes⟩
  · obtain ⟨hs, hmem, hlist, nonempty⟩ := mem_groupsWithout hm
    obtain ⟨number, _, few, distinct, members⟩ := groups _ hmem
    refine ⟨number, nonempty, ?_, ?_, fun x hx => ?_⟩
    · rw [hlist]
      exact Nat.le_trans (List.length_filter_le _ _) few
    · rw [hlist]
      exact distinct.filter _
    · rw [hlist, List.mem_filter, decide_eq_true_eq] at hx
      obtain ⟨valid', live⟩ := members x hx.1
      have other : x.slot ≠ h.slot := fun same => by
        rw [same, valid] at valid'
        obtain ⟨_, _⟩ := x
        obtain ⟨_, _⟩ := h
        exact hx.2 (by simp_all)
      refine ⟨valid', ?_⟩
      dsimp only
      rwa [Table.find_remove_ne _ _ _ other]

/-! ### Segments -/

theorem portOfSegment_congr {segments segments' : Table Segment} {n : Nat}
    (h : 6 ≤ n → segments'.find n = segments.find n) : portOfSegment segments' n = portOfSegment segments n := by
  rw [portOfSegment, portOfSegment]
  match n, h with
  | 0, _ | 1, _ | 2, _ | 3, _ | 4, _ | 5, _ => rfl
  | n + 6, h =>
    have none_ : Port.ofNat? (n + 6) = none := rfl
    rw [none_]
    dsimp only
    rw [h (by omega)]

theorem segmentPresent_congr {segments segments' : Table Segment} {n : Nat}
    (h : 6 ≤ n → segments'.find n = segments.find n) : segmentPresent segments' n = segmentPresent segments n := by
  rw [segmentPresent, segmentPresent]
  by_cases hn : n < 6
  · simp [Config.rootSegments, hn]
  · rw [h (by omega)]

/-- What the checks of ADD_SEGMENT establish (R33). -/
theorem segmentRefusal_eq_none {x : Segment} (h : segmentRefusal g x = none) :
    (∀ y ∈ g.segments, ¬ (y.2.port = x.port ∧ y.2.mux = x.mux ∧ y.2.channel = x.channel)) ∧
      ∀ e ∈ g.endpoints, portOfSegment g.segments e.2.segment = x.port → e.2.address ≠ x.mux := by
  rw [segmentRefusal] at h
  split at h
  · exact absurd h (by simp)
  · next path =>
    split at h
    · exact absurd h (by simp)
    · next conflict =>
      refine ⟨fun y hy same => path ?_, fun e he port mux => conflict ?_⟩
      · simp only [List.any_eq_true, decide_eq_true_eq]
        exact ⟨y, hy, same⟩
      · simp only [List.any_eq_true, decide_eq_true_eq]
        exact ⟨e, he, port, mux⟩

/-- A segment that passes the checks may be added (R33). -/
theorem lawful_addSegment {n : Nat} {x : Segment} (sorted : g.segments.sorted = true) (hl : g.lawful generation)
    (low : 6 ≤ n) (high : n < 32) (free : g.segments.find n = none) (h : segmentRefusal g x = none) :
    ({ g with segments := g.segments.put n x } : Configuration).lawful generation := by
  obtain ⟨paths, conflicts⟩ := segmentRefusal_eq_none h
  obtain ⟨endpoints, segments, groups⟩ := hl
  refine ⟨fun e he => ?_, fun y hy => ?_, groups⟩
  · obtain ⟨slot, range, present, others, muxes⟩ := endpoints e he
    have same : 6 ≤ e.2.segment → (g.segments.put n x).find e.2.segment =
        g.segments.find e.2.segment := fun configurable => by
      refine Table.find_put_ne _ _ _ _ fun eq => ?_
      rw [eq, segmentPresent, free] at present
      simp [Config.rootSegments, Nat.not_lt.mpr low] at present
    refine ⟨slot, range, (segmentPresent_congr same).trans present, others, fun y hy port => ?_⟩
    rw [portOfSegment_congr same] at port
    rcases (Table.mem_put_iff sorted).mp hy with rfl | ⟨hy, _⟩
    · exact (conflicts e he port.symm).symm
    · exact muxes y hy port
  · rcases (Table.mem_put_iff sorted).mp hy with rfl | ⟨hy, _⟩
    · refine ⟨low, high, fun z hz other => ?_⟩
      rcases (Table.mem_put_iff sorted).mp hz with rfl | ⟨hz, _⟩
      · exact absurd rfl other
      · exact paths z hz
    · obtain ⟨low', high', distinct⟩ := segments y hy
      refine ⟨low', high', fun z hz other => ?_⟩
      rcases (Table.mem_put_iff sorted).mp hz with rfl | ⟨hz, _⟩
      · exact fun ⟨h1, h2, h3⟩ => paths y hy ⟨h1.symm, h2.symm, h3.symm⟩
      · exact distinct z hz other

/-- A segment on which no record stands may be retired (R34). -/
theorem lawful_retireSegment {n : Nat} (hl : g.lawful generation)
    (unused : (g.endpoints.any fun e => decide (e.2.segment = n)) = false) :
    ({ g with segments := g.segments.remove n } : Configuration).lawful generation := by
  obtain ⟨endpoints, segments, groups⟩ := hl
  refine ⟨fun e he => ?_, fun y hy => ?_, groups⟩
  · obtain ⟨slot, range, present, others, muxes⟩ := endpoints e he
    have other : e.2.segment ≠ n := by simpa using List.any_eq_false.mp unused e he
    have same : 6 ≤ e.2.segment → (g.segments.remove n).find e.2.segment = g.segments.find e.2.segment :=
      fun _ => Table.find_remove_ne _ _ _ other
    refine ⟨slot, range, (segmentPresent_congr same).trans present, others, fun y hy port => ?_⟩
    rw [portOfSegment_congr same] at port
    exact muxes y ((Table.mem_remove_iff _).mp hy).1 port
  · obtain ⟨low, high, distinct⟩ := segments y ((Table.mem_remove_iff _).mp hy).1
    exact ⟨low, high, fun z hz => distinct z ((Table.mem_remove_iff _).mp hz).1⟩

/-! ### Groups -/

/-- A member list of valid handles may be set (R35). -/
theorem lawful_setGroup {n : Nat} {hs : List Handle} (sorted : g.groups.sorted = true) (hl : g.lawful generation)
    (number : n < 16) (few : hs.length ≤ 12) (distinct : hs.Nodup)
    (valid : ∀ h ∈ hs, generation h.slot = h.gen ∧ (g.endpoints.find h.slot).isSome = true) :
    (g.setGroup n hs).lawful generation := by
  obtain ⟨endpoints, segments, groups⟩ := hl
  refine ⟨endpoints, segments, fun m hm => ?_⟩
  rw [Configuration.setGroup] at hm
  dsimp only at hm
  split at hm
  · exact groups m ((Table.mem_remove_iff _).mp hm).1
  · next nonempty =>
    rcases (Table.mem_put_iff sorted).mp hm with rfl | ⟨hm, _⟩
    · exact ⟨number, by simpa [List.isEmpty_iff] using nonempty, few, distinct, valid⟩
    · exact groups m hm

end Sys2Proof.Machine
end

section
/-! SUPPORT. The laws of the views and of the affected set (R6, R11, R12, R38): every command keeps them. -/
namespace Sys2Proof

/-- Tables in canonical form with the same lookups are the same. -/
theorem Table.ext {α : Type} {t u : Table α} (ht : t.sorted = true) (hu : u.sorted = true)
    (h : ∀ n, t.find n = u.find n) : t = u := by
  have perm : List.Perm t u := by
    refine (List.perm_ext_iff_of_nodup ?_ ?_).mpr fun ⟨n, x⟩ => ?_
    · exact .of_map _ (Table.nodup_keys ht)
    · exact .of_map _ (Table.nodup_keys hu)
    · exact (Table.mem_iff_find ht).trans (by rw [h n]; exact (Table.mem_iff_find hu).symm)
  refine perm.eq_of_pairwise (fun a b _ _ hab hba => ?_) ((Table.sorted_iff t).mp ht) ((Table.sorted_iff u).mp hu)
  exact absurd (Nat.lt_trans hab hba) (Nat.lt_irrefl _)

end Sys2Proof

namespace Sys2Proof.Machine

/-- The laws of the views, and that the affected set of an armed commit is the one its views give. -/
structure State.ViewLaws (s : State) : Prop where
  committed : s.committed.lawful s.generation
  staging : ∀ g, s.session.staging? = some g → g.lawful s.generation
  affected : ∀ l g k, s.session = .armed l g k → k.affected = s.affectedBy g

/-! ### What the laws read -/

theorem generation_eq {s t : State} (h : SameDirectory s t) : t.generation = s.generation :=
  funext h.generation

theorem committed_eq {s t : State} (h : SameDirectory s t) (hs : s.records.sorted = true)
    (ht : t.records.sorted = true) : t.committed = s.committed := by
  have endpoints : (t.records.mapValues fun _ r => r.config) = s.records.mapValues fun _ r => r.config := by
    refine Table.ext ((Table.sorted_mapValues _ _).trans ht) ((Table.sorted_mapValues _ _).trans hs) fun n => ?_
    rw [Table.find_mapValues, Table.find_mapValues]
    exact h.configs n
  rw [State.committed, State.committed, h.segments, h.groups, endpoints]

/-- The affected set from the committed view (R38). -/
theorem affectedBy_eq (s : State) (g : Configuration) :
    s.affectedBy g = (s.committed.endpoints.filter fun e => match g.endpoints.find e.1 with
      | none => true
      | some c => !e.2.sameRoute c).map fun e => Handle.mk e.1 (s.generation e.1) := by
  rw [State.affectedBy, State.committed, Table.mapValues, List.filter_map, List.map_map]
  rfl

theorem affectedBy_congr {s t : State} (h : SameDirectory s t) (hs : s.records.sorted = true)
    (ht : t.records.sorted = true) (g : Configuration) : t.affectedBy g = s.affectedBy g := by
  rw [affectedBy_eq, affectedBy_eq, committed_eq h hs ht, generation_eq h]

/-- A change that leaves the directory, and the staging view where one is left, keeps the laws. -/
theorem State.ViewLaws.of_same {s t : State} (h : SameDirectory s t) (hs : s.records.sorted = true)
    (ht : t.records.sorted = true) (staging : ∀ g, t.session.staging? = some g → s.session.staging? = some g)
    (armed : ∀ l g k, t.session = .armed l g k → s.session = .armed l g k ∨ k.affected = s.affectedBy g)
    (laws : s.ViewLaws) : t.ViewLaws := by
  refine ⟨?_, fun g hg => ?_, fun l g k hk => ?_⟩
  · rw [committed_eq h hs ht, generation_eq h]
    exact laws.committed
  · rw [generation_eq h]
    exact laws.staging g (staging g hg)
  · rw [affectedBy_congr h hs ht]
    rcases armed l g k hk with hk | hk
    · exact laws.affected l g k hk
    · exact hk

/-! ### The laws kept -/

/-- The change keeps the laws of the views, from canonical tables. -/
def ViewsKept (s t : State) : Prop :=
  s.tablesSorted → s.ViewLaws → t.tablesSorted ∧ t.ViewLaws

theorem ViewsKept.refl (s : State) : ViewsKept s s :=
  fun hs h => ⟨hs, h⟩

theorem ViewsKept.trans {s t u : State} (h : ViewsKept s t) (g : ViewsKept t u) : ViewsKept s u :=
  fun hs laws => g (h hs laws).1 (h hs laws).2

/-- A change that leaves the directory and the session. -/
theorem ViewsKept.of_same {s t : State} (k : Keeps s t) (same : SameDirectory s t) (session : t.session = s.session) :
    ViewsKept s t := fun hs laws =>
  ⟨k.tables hs, .of_same same hs.1 (k.tables hs).1 (fun _ hg => by rwa [session] at hg)
    (fun _ _ _ hk => .inl (by rwa [session] at hk)) laws⟩

/-- A change that leaves the directory, and no staging view or the one there was without a commit. -/
theorem ViewsKept.of_unarmed {s t : State} (k : Keeps s t) (same : SameDirectory s t)
    (staging : ∀ g, t.session.staging? = some g → s.session.staging? = some g)
    (unarmed : ∀ l g k, t.session ≠ .armed l g k) : ViewsKept s t := fun hs laws =>
  ⟨k.tables hs, .of_same same hs.1 (k.tables hs).1 staging (fun _ _ _ hk => absurd hk (unarmed _ _ _)) laws⟩

theorem committed_installStaging {s : State} {g : Configuration} : (installStaging g s).committed = g := by
  have endpoints : ((g.endpoints.mapValues s.committedRecord).mapValues fun _ r => r.config) = g.endpoints := by
    rw [Table.mapValues, Table.mapValues, List.map_map]
    refine (List.map_congr_left fun e _ => ?_).trans (List.map_id _)
    rw [Function.comp_apply, State.committedRecord]
    split <;> rfl
  rw [State.committed, installStaging]
  dsimp only
  rw [endpoints]

/-- The staging view is lawful as the committed one (R43): the slots that are LIVE in it keep their generations. -/
theorem views_installStaging {s : State} {g : Configuration} (hg : s.session.staging? = some g) :
    ViewsKept s (installStaging g s) := fun hs laws => by
  refine ⟨(keeps_installStaging hg).tables hs, ?_, fun _ h => ?_, fun _ _ _ h => ?_⟩
  · rw [committed_installStaging]
    refine lawful_generation (laws.staging g hg) fun n live => ?_
    rw [generation_installStaging hs.1, if_neg fun h => ?_]
    rw [h.2] at live
    exact absurd live (by decide)
  · exact absurd h (by simp [installStaging, Session.staging?])
  · exact absurd h (by simp [installStaging])

theorem views_respond (l : Link) (tag : Tag) (o : Status) (d : List Byte) (s : State) :
    ViewsKept s (respond l tag o d s) :=
  .of_same (keeps_respond ..) (sameDirectory_respond ..) (respond_session ..)

theorem views_setRuntime (h : Handle) (rt : Runtime) (s : State) : ViewsKept s (s.setRuntime h rt) :=
  .of_same (keeps_setRuntime ..) (sameDirectory_setRuntime ..) (setRuntime_session ..)

theorem views_place (origin : Origin) {l : Link} (h : Handle) (cfg : EndpointConfig) (op : Operation)
    (index : Option (BitVec 24)) (length : Option Nat) (data : List Byte) (deadline : Time) {s : State}
    (open_ : s.slotOpen l = true) : ViewsKept s (place origin l h cfg op index length data deadline s) := by
  have k := keeps_place origin h cfg op index length data deadline open_
  obtain ⟨ts, eq⟩ := place_eq origin l h cfg op index length data deadline s
  rw [eq] at k ⊢
  exact .of_same k (.of_eq rfl rfl rfl rfl rfl) rfl

theorem keptEnd_views (s : State) : KeptEnd (ViewsKept s) where
  waiting ws h := h.trans (.of_same ((keptEnd_keeps _).waiting ws (.refl _)) (.of_eq rfl rfl rfl rfl rfl) rfl)
  setContext _ _ _ h := h.trans (.of_same (keeps_setContext _ _ _) (.of_eq rfl rfl rfl rfl rfl) rfl)
  closeContext d hx h := h.trans (.of_same ((keptEnd_keeps _).closeContext d hx (.refl _))
    ((sameDirectory_respond _ _ _ _ _).trans (.of_eq rfl rfl rfl rfl rfl)) (respond_session ..))
  placeMember _ _ _ _ _ _ _ _ _ _ open_ _ h := h.trans (views_place _ _ _ _ _ _ _ _ open_)
  dropSlot n h := h.trans (.of_same (keeps_withoutSlot n _) (.of_eq rfl rfl rfl rfl rfl) rfl)
  respond _ _ _ _ h := h.trans (views_respond _ _ _ _ _)
  raise _ _ _ h := h.trans (.of_same (keeps_raise _ _ _ _) (.of_eq rfl rfl rfl rfl rfl) rfl)
  setRuntime _ _ h := h.trans (views_setRuntime _ _ _)
  removeReservation x h := h.trans (.of_same ((keptEnd_keeps _).removeReservation x (.refl _))
    (.of_eq rfl rfl rfl rfl rfl) rfl)
  installStaging hs h := h.trans (views_installStaging (congrArg Session.staging? hs))

theorem views_setWriteBusy (h : Handle) (w : Option WriteBusy) (s : State) : ViewsKept s (setWriteBusy h w s) := by
  rcases setWriteBusy_eq h w s with eq | ⟨r, _, eq⟩
  · rw [eq]
    exact .refl s
  · rw [eq]
    exact views_setRuntime _ _ s

/-! ### Edits -/

/-- An edit keeps the laws where the view it leaves has them (R29). -/
theorem views_applyEdit {l : Link} {tag : Tag} {g g' : Configuration} {e : Time} {s : State} (d : List Byte)
    (hs : s.session = .opened l g e) (sorted : g.sorted = true → g'.sorted = true)
    (lawful : g.sorted = true → g.lawful s.generation → g'.lawful s.generation) :
    ViewsKept s (applyEdit l tag g' d s) := fun tables laws => by
  have staging : s.session.staging? = some g := by rw [hs]; rfl
  have edited : ({ s with session := .opened l g' (s.after s.tSess) } : State).ViewLaws :=
    ⟨laws.committed,
      fun x hx => by
        rw [← Option.some.inj hx]
        exact lawful (sorted_staging tables staging) (laws.staging g staging),
      fun _ _ _ h => absurd h (by simp)⟩
  have tables' : ({ s with session := .opened l g' (s.after s.tSess) } : State).tablesSorted :=
    (keeps_session fun tables x hx => by
      rw [← Option.some.inj hx]
      exact sorted (sorted_staging tables staging)).tables tables
  exact views_respond _ _ _ _ _ tables' edited

theorem sorted_parts {g : Configuration} (h : g.sorted = true) :
    g.endpoints.sorted = true ∧ g.segments.sorted = true ∧ g.groups.sorted = true := by
  simp only [Configuration.sorted, Bool.and_eq_true] at h
  obtain ⟨⟨endpoints, segments⟩, groups⟩ := h
  exact ⟨endpoints, segments, groups⟩

theorem validStaged_iff {s : State} {g : Configuration} {h : Handle} :
    s.validStaged g h = true ↔ s.generation h.slot = h.gen ∧ (g.endpoints.find h.slot).isSome = true := by
  rw [State.validStaged, Bool.and_eq_true, decide_eq_true_eq]

section
variable {l : Link} {g : Configuration} {e : Time} {s : State}

theorem views_addEndpoint {c : EndpointConfig} (tag : Tag) (hs : s.session = .opened l g e) (range : c.inRange) :
    ViewsKept s (addEndpoint l tag c g s) := by
  rw [addEndpoint]
  split
  · exact views_respond _ _ _ _ s
  · exact views_respond _ _ _ _ s
  · next n refusal slot =>
    obtain ⟨small, free⟩ := lowestFree_some slot
    obtain ⟨present, others, muxes⟩ := recordRefusal_eq_none refusal
    refine views_applyEdit _ hs (fun hg => sorted_withEndpoints hg (Table.sorted_put _ _)) fun sorted lawful => ?_
    exact lawful_putEndpoint (sorted_parts sorted).1 lawful small range present
      (fun d hd _ => others d hd (by simp)) muxes

theorem views_modifyEndpoint {h : Handle} {c : EndpointConfig} (tag : Tag) (hs : s.session = .opened l g e)
    (small : h.slot < 128) (range : c.inRange) : ViewsKept s (modifyEndpoint l tag h c g s) := by
  rw [modifyEndpoint]
  split
  · refine unlessRefused_cases (fun o => views_respond l tag o _ s) fun refusal => ?_
    obtain ⟨present, others, muxes⟩ := recordRefusal_eq_none refusal
    refine views_applyEdit _ hs (fun hg => sorted_withEndpoints hg (Table.sorted_put _ _)) fun sorted lawful => ?_
    exact lawful_putEndpoint (sorted_parts sorted).1 lawful small range present
      (fun d hd other => others d hd (by simpa using other)) muxes
  · exact views_respond _ _ _ _ s

theorem views_retireEndpoint (tag : Tag) (h : Handle) (hs : s.session = .opened l g e) :
    ViewsKept s (retireEndpoint l tag h g s) := by
  rw [retireEndpoint]
  split
  · next valid =>
    refine views_applyEdit _ hs (fun hg => ?_) fun _ lawful => lawful_retireEndpoint (validStaged_iff.mp valid).1 lawful
    exact sorted_withEndpoints (sorted_withGroups hg (sorted_groupsWithout h)) (Table.sorted_remove _)
  · exact views_respond _ _ _ _ s

theorem views_addSegment (tag : Tag) (x : Segment) (hs : s.session = .opened l g e) :
    ViewsKept s (addSegment l tag x g s) := by
  rw [addSegment]
  split
  · exact views_respond _ _ _ _ s
  · exact views_respond _ _ _ _ s
  · next n refusal slot =>
    obtain ⟨small, free⟩ := lowestFree_some slot
    simp only [Bool.or_eq_false_iff, decide_eq_false_iff_not, Nat.not_lt, Option.isSome_eq_false_iff,
      Option.isNone_iff_eq_none] at free
    obtain ⟨⟨low, _⟩, absent⟩ := free
    refine views_applyEdit _ hs (fun hg => sorted_withSegments hg (Table.sorted_put _ _)) fun sorted lawful => ?_
    exact lawful_addSegment (sorted_parts sorted).2.1 lawful low small absent refusal

theorem views_retireSegment {n : Nat} (tag : Tag) (hs : s.session = .opened l g e) :
    ViewsKept s (retireSegment l tag n g s) := by
  rw [retireSegment]
  split
  · exact views_respond _ _ _ _ s
  · split
    · exact views_respond _ _ _ _ s
    · next unused =>
      exact views_applyEdit _ hs (fun hg => sorted_withSegments hg (Table.sorted_remove _))
        fun _ lawful => lawful_retireSegment lawful (by simpa using unused)

theorem views_setGroup {n : Nat} {hs : List Handle} (tag : Tag) (session : s.session = .opened l g e) (small : n ≤ 15)
    (few : hs.length ≤ 12) (distinct : hs.Nodup) : ViewsKept s (setGroup l tag n hs g s) := by
  rw [setGroup]
  split
  · next valid =>
    refine views_applyEdit _ session (sorted_setGroup g _ _) fun sorted lawful => ?_
    exact lawful_setGroup (sorted_parts sorted).2.2 lawful (Nat.lt_succ_of_le small) few distinct
      fun h hh => validStaged_iff.mp (List.all_eq_true.mp valid h hh)
  · exact views_respond _ _ _ _ s

theorem views_openSession (tag : Tag) : ViewsKept s (answer l tag .ok (openSession l s)) := fun tables laws =>
  have opened : (openSession l s).ViewLaws :=
    ⟨laws.committed, fun x hx => by rw [← Option.some.inj hx]; exact laws.committed, fun _ _ _ h => absurd h
        (by simp [openSession])⟩
  views_respond _ _ _ _ _ ((keeps_openSession l s).tables tables) opened

/-- Arming lists the records that the commit affects (R38, R39). -/
theorem views_armSession (tag : Tag) (mode : CommitMode) (d : Option Nat) (hs : s.session = .opened l g e) :
    ViewsKept s (armSession l tag mode d g s) := fun tables laws => by
  have staging := congrArg Session.staging? hs
  refine ⟨(keeps_sameStaging staging.symm).tables tables,
    .of_same (s := s) (.of_eq rfl rfl rfl rfl rfl) tables.1 tables.1 (fun x hx => ?_) (fun m x k hk => .inr ?_) laws⟩
  · rw [staging]
    exact hx
  · obtain ⟨rfl, rfl, rfl⟩ := Session.armed.inj hk
    rfl

end

theorem viewLaws_empty {s : State} (records : s.records = []) (segments : s.segments = []) (groups : s.groups = [])
    (session : s.session = .absent) : s.ViewLaws := by
  refine ⟨?_, fun g hg => ?_, fun l g k hk => ?_⟩
  · rw [State.committed, records, segments, groups]
    exact ⟨fun _ h => absurd h List.not_mem_nil, fun _ h => absurd h List.not_mem_nil,
      fun _ h => absurd h List.not_mem_nil⟩
  · exact absurd hg (by rw [session]; simp [Session.staging?])
  · exact absurd hk (by rw [session]; simp)

end Sys2Proof.Machine
end

section
/-! SUPPORT. The law of R106 through every command: where a command breaks it on the way, by a score that reaches its
threshold or a quarantined record that still holds its reservation, a quarantine entry restores it (R107 to R109). -/
namespace Sys2Proof.Machine

theorem Health.isActive_iff (x : Health) : x.isActive = true ↔ x = .active := by
  cases x <;> simp [Health.isActive]

theorem Health.isActive_unprobed (x : Health) : x.unprobed.isActive = x.isActive := by
  cases x <;> rfl

theorem Health.isActive_probed (x : Health) : x.probed.isActive = x.isActive := by
  cases x <;> rfl

/-! ### The law with exceptions -/

/-- The law of R106 reads the same in the two states. -/
structure SameRecords (s t : State) : Prop where
  records : t.records = s.records
  generations : t.generations = s.generations
  reservations : t.reservations = s.reservations

theorem sameRecords_respond (l : Link) (tag : Tag) (o : Status) (d : List Byte) (s : State) :
    SameRecords s (respond l tag o d s) :=
  ⟨respond_records .., respond_generations .., respond_reservations ..⟩

theorem sameRecords_applyEdit (l : Link) (tag : Tag) (g : Configuration) (d : List Byte) (s : State) :
    SameRecords s (applyEdit l tag g d s) := by
  obtain ⟨records, generations, reservations⟩ :=
    sameRecords_respond l tag .ok d { s with session := .opened l g (s.after s.tSess) }
  exact ⟨records, generations, reservations⟩

theorem sameRecords_place (origin : Origin) (l : Link) (h : Handle) (cfg : EndpointConfig) (op : Operation)
    (index : Option (BitVec 24)) (length : Option Nat) (data : List Byte) (deadline : Time) (s : State) :
    SameRecords s (place origin l h cfg op index length data deadline s) := by
  obtain ⟨ts, eq⟩ := place_eq origin l h cfg op index length data deadline s
  rw [eq]
  exact ⟨rfl, rfl, rfl⟩

/-- The laws of the directory, with the slots whose score need not be below its threshold, and those whose record may
have a reservation though it is not ACTIVE; and the generations of the slots. -/
structure State.LawfulBut (s : State) (generations : Table (BitVec 4)) (scored reserved : List Nat) : Prop where
  tables : s.tablesSorted
  views : s.ViewLaws
  generations : s.generations = generations
  score : ∀ n r, s.records.find n = some r → r.runtime.health.isActive = true →
    r.runtime.score < r.config.threshold ∨ n ∈ scored
  reservation : ∀ n r, s.records.find n = some r → r.runtime.health.isActive = false →
    s.reservation? (s.handleAt n) = none ∨ n ∈ reserved

/-- The laws of the directory, from canonical tables. -/
abbrev State.Lawful (s : State) : Prop :=
  s.LawfulBut s.generations [] []

theorem lawful_iff {s : State} (h : s.tablesSorted) : s.Lawful ↔ s.directoryLaws := by
  have record : ∀ n r, (n, r) ∈ s.records ↔ s.records.find n = some r := fun n r => Table.mem_iff_find h.1
  constructor
  · intro l
    refine ⟨l.views.committed, l.views.staging, fun ⟨n, r⟩ he => ⟨fun active => ?_, fun other => ?_⟩, l.views.affected⟩
    · simpa using l.score n r ((record n r).mp he) ((Health.isActive_iff _).mpr active)
    · have inactive : r.runtime.health.isActive = false :=
        Bool.eq_false_iff.mpr fun active => other ((Health.isActive_iff _).mp active)
      simpa using l.reservation n r ((record n r).mp he) inactive
  · intro ⟨committed, staging, health, affected⟩
    refine ⟨h, ⟨committed, staging, affected⟩, rfl, fun n r hr active => ?_, fun n r hr inactive => ?_⟩
    · exact .inl ((health _ ((record n r).mpr hr)).1 ((Health.isActive_iff _).mp active))
    · refine .inl ((health _ ((record n r).mpr hr)).2 fun active => ?_)
      exact absurd ((Health.isActive_iff _).mpr active) (by simp [inactive])

namespace State.LawfulBut

variable {s t : State} {γ : Table (BitVec 4)} {X Y : List Nat}

theorem weaken {X' Y' : List Nat} (h : s.LawfulBut γ X Y) (hX : ∀ n ∈ X, n ∈ X') (hY : ∀ n ∈ Y, n ∈ Y') :
    s.LawfulBut γ X' Y' :=
  ⟨h.tables, h.views, h.generations, fun n r hr ha => (h.score n r hr ha).imp id (hX n),
    fun n r hr ha => (h.reservation n r hr ha).imp id (hY n)⟩

/-- Without exceptions, the generations are the state's own. -/
theorem lawful (h : s.LawfulBut γ [] []) : s.Lawful :=
  { h with generations := rfl }

/-- A change of neither the records nor the generations, and of the reservations of ACTIVE records alone. -/
theorem of_reservations (h : s.LawfulBut γ X Y) (v : ViewsKept s t) (records : t.records = s.records)
    (generations : t.generations = s.generations)
    (reservations : ∀ n r, s.records.find n = some r → r.runtime.health.isActive = false →
      s.reservation? (s.handleAt n) = none → t.reservation? (s.handleAt n) = none) : t.LawfulBut γ X Y := by
  obtain ⟨tables, views⟩ := v h.tables h.views
  refine ⟨tables, views, generations.trans h.generations, fun n r hr => h.score n r (by rwa [← records]), ?_⟩
  intro n r hr inactive
  rw [records] at hr
  have same : t.handleAt n = s.handleAt n := by
    rw [State.handleAt, State.handleAt, State.generation, State.generation, generations]
  rw [same]
  exact (h.reservation n r hr inactive).imp (reservations n r hr inactive) id

theorem congr (h : s.LawfulBut γ X Y) (v : ViewsKept s t) (same : SameRecords s t) : t.LawfulBut γ X Y :=
  h.of_reservations v same.records same.generations fun n r _ _ none_ => by
    rwa [State.reservation?, same.reservations]

/-- The handle of a slot is the one of its generation. -/
theorem handleAt_eq (h : s.LawfulBut γ X Y) (n : Nat) : s.handleAt n = ⟨n, (γ.find n).getD 0⟩ := by
  rw [State.handleAt, State.generation, h.generations]

/-- A reservation that is removed leaves the law. -/
theorem removeReservation (h : s.LawfulBut γ X Y) (x : Handle) : (Machine.removeReservation x s).LawfulBut γ X Y := by
  refine h.of_reservations ((keptEnd_views s).removeReservation x (.refl s)) rfl rfl fun n r _ _ none_ => ?_
  rw [State.reservation?, List.find?_eq_none] at none_ ⊢
  exact fun y hy => none_ y (List.mem_of_mem_filter hy)

/-- Whatever fits the law of R106, or is an exception, may become a record's runtime part. -/
theorem setRuntime {X' Y' : List Nat} (h : s.LawfulBut γ X Y) (x : Handle) (rt : Runtime)
    (hX : ∀ n ∈ X, n ∈ X' ∨ (s.record? x).isSome = true ∧ n = x.slot) (hY : ∀ n ∈ Y, n ∈ Y')
    (score : ∀ r, s.record? x = some r → rt.health.isActive = true → rt.score < r.config.threshold ∨ x.slot ∈ X')
    (reservation : ∀ r, s.record? x = some r → rt.health.isActive = false →
      r.runtime.health.isActive = false ∨ x.slot ∈ Y') : (s.setRuntime x rt).LawfulBut γ X' Y' := by
  obtain ⟨tables, views⟩ := views_setRuntime x rt s h.tables h.views
  revert tables views
  rw [State.setRuntime]
  split
  · next r hr =>
    intro tables views
    have found : s.records.find x.slot = some r := by
      rw [State.record?] at hr
      split at hr
      · exact hr
      · exact absurd hr (by simp)
    refine ⟨tables, views, h.generations, fun n r' hr' active => ?_, fun n r' hr' inactive => ?_⟩
    · dsimp only at hr'
      rw [Table.find_put] at hr'
      split at hr'
      · next eq =>
        rw [← Option.some.inj hr'] at active ⊢
        rw [eq]
        exact score r hr active
      · next ne => exact (h.score n r' hr' active).imp id fun hn => (hX n hn).resolve_right fun e => ne e.2
    · dsimp only at hr'
      rw [Table.find_put] at hr'
      split at hr'
      · next eq =>
        subst eq
        rw [← Option.some.inj hr'] at inactive
        rcases reservation r hr inactive with already | exception
        · exact (h.reservation _ r found already).imp id (hY _)
        · exact .inr exception
      · exact (h.reservation n r' hr' inactive).imp id (hY n)
  · next hr =>
    intro _ _
    refine h.weaken (fun n hn => (hX n hn).resolve_right fun e => ?_) hY
    rw [hr] at e
    exact absurd e.1 (by decide)

/-- A runtime part that differs by neither state nor score leaves the law. -/
theorem setRuntime_same (h : s.LawfulBut γ X Y) {x : Handle} {r : Record} (hr : s.record? x = some r) {rt : Runtime}
    (health : rt.health.isActive = r.runtime.health.isActive) (score : rt.score = r.runtime.score) :
    (s.setRuntime x rt).LawfulBut γ X Y := by
  refine h.setRuntime x rt (fun _ hn => .inl hn) (fun _ hn => hn) (fun r' hr' active => ?_) fun r' hr' inactive => ?_
  · rw [← Option.some.inj (hr.symm.trans hr')]
    have found : s.records.find x.slot = some r := by
      rw [State.record?] at hr
      split at hr
      · exact hr
      · exact absurd hr (by simp)
    rw [score]
    exact h.score _ r found (health ▸ active)
  · rw [← Option.some.inj (hr.symm.trans hr')]
    exact .inl (health ▸ inactive)

end State.LawfulBut

/-! ### Deliveries and removals -/

theorem keptDelivery_lawful (γ : Table (BitVec 4)) (X Y : List Nat) : KeptDelivery fun s => s.LawfulBut γ X Y where
  waiting ws h := h.congr ((keptEnd_views _).waiting ws (.refl _)) ⟨rfl, rfl, rfl⟩
  setContext hx hl ht h := h.congr ((keptEnd_views _).setContext hx hl ht (.refl _)) ⟨rfl, rfl, rfl⟩
  closeContext d hx h := by
    obtain ⟨records, generations, reservations⟩ := sameRecords_respond _ _ _ _ _
    exact h.congr ((keptEnd_views _).closeContext d hx (.refl _)) ⟨records, generations, reservations⟩
  placeMember _ _ _ _ _ _ _ _ _ _ open_ _ h := h.congr (views_place _ _ _ _ _ _ _ _ open_) (sameRecords_place ..)
  dropSlot n h := h.congr ((keptEnd_views _).dropSlot n (.refl _)) ⟨rfl, rfl, rfl⟩
  respond l tag o d h := h.congr (views_respond l tag o d _) (sameRecords_respond ..)
  raise l kind x h := h.congr ((keptEnd_views _).raise l kind x (.refl _)) ⟨rfl, rfl, rfl⟩

theorem keptRemoval_lawful (γ : Table (BitVec 4)) (X Y : List Nat) : KeptRemoval fun s => s.LawfulBut γ X Y where
  toKeptDelivery := keptDelivery_lawful γ X Y
  unprobe x h := by
    rw [unprobe]
    split
    · next r hr => exact h.setRuntime_same hr (Health.isActive_unprobed _) rfl
    · exact h

namespace State.LawfulBut

variable {s : State} {γ : Table (BitVec 4)} {X Y : List Nat}

/-- A revocation makes up for the one exception that its record is (R109, R147). -/
theorem revokeReservation (h : s.LawfulBut γ X Y) {x : Handle} {Y' : List Nat}
    (hY : ∀ n ∈ Y, n ∈ Y' ∨ x = ⟨n, (γ.find n).getD 0⟩) : (revokeReservation x s).LawfulBut γ X Y' := by
  have gone : (Machine.removeReservation x s).LawfulBut γ X Y' := by
    have removed := h.removeReservation x
    refine { removed with reservation := fun n r hr inactive => ?_ }
    rcases removed.reservation n r hr inactive with none_ | exception
    · exact .inl none_
    · refine (hY n exception).symm.imp (fun eq => ?_) id
      rw [removed.handleAt_eq, ← eq, State.reservation?, Machine.removeReservation, List.find?_eq_none]
      exact fun y hy => by simpa using (List.mem_filter.mp hy).2
  rw [Machine.revokeReservation]
  split
  · exact (keptDelivery_lawful γ X Y').raise _ _ _ gone
  · next none_ =>
    refine { h with reservation := fun n r hr inactive => ?_ }
    rcases h.reservation n r hr inactive with free | exception
    · exact .inl free
    · refine (hY n exception).symm.imp (fun eq => ?_) id
      rw [h.handleAt_eq, ← eq]
      exact none_

/-- A quarantine entry makes up for a score at its threshold, and restores the law (R107, R109). -/
theorem quarantineEntry {X' : List Nat} (h : s.LawfulBut γ X' []) (x : Handle) (c : QuarantineCause)
    (hX : ∀ n ∈ X', n ∈ X ∨ x = ⟨n, (γ.find n).getD 0⟩) : (quarantineEntry x c s).LawfulBut γ X [] := by
  have set : (setQuarantined x c s).LawfulBut γ X (if x = ⟨x.slot, (γ.find x.slot).getD 0⟩ then [x.slot] else []) := by
    rw [setQuarantined]
    split
    · next r hr =>
      have valid : x = ⟨x.slot, (γ.find x.slot).getD 0⟩ := by
        rw [State.record?] at hr
        split at hr
        · next generation =>
          rw [State.generation, h.generations] at generation
          rw [generation]
        · exact absurd hr (by simp)
      rw [if_pos valid]
      refine h.setRuntime x _ (fun n hn => (hX n hn).imp id fun eq => ⟨by rw [hr]; rfl, by rw [eq]⟩)
        (fun _ hn => absurd hn List.not_mem_nil) (fun _ _ active => absurd active (by simp [Health.isActive]))
        fun _ _ _ => .inr List.mem_cons_self
    · next hr =>
      refine { (h.weaken (X' := X') (fun _ hn => hn) (fun _ hn => absurd hn List.not_mem_nil)) with
        score := fun n r hfind active => ?_ }
      refine (h.score n r hfind active).imp id fun hn => (hX n hn).resolve_right fun eq => ?_
      subst eq
      rw [State.record?, State.generation, h.generations, if_pos rfl, hfind] at hr
      exact absurd hr (by simp)
  refine (keptDelivery_lawful γ X []).raiseBoth _ _ ?_
  refine ((keptRemoval_lawful γ X _).removeAll _ _ set).revokeReservation fun n hn => ?_
  split at hn
  · next valid =>
    rw [List.mem_singleton.mp hn]
    exact .inr valid
  · exact absurd hn List.not_mem_nil

/-- The re-check of a record makes up for its score (R108). -/
theorem recheck {acc : State × Nat} {n : Nat} (h : acc.1.LawfulBut γ (n :: X) []) :
    (recheck acc n).1.LawfulBut γ X [] := by
  rw [Machine.recheck]
  split
  · next r hr =>
    split
    · refine h.quarantineEntry _ _ fun m hm => ?_
      rcases List.mem_cons.mp hm with rfl | hm
      · exact .inr (h.handleAt_eq _)
      · exact .inl hm
    · next fits =>
      refine { h with score := fun m r' hr' active => ?_ }
      rcases h.score m r' hr' active with fit | exception
      · exact .inl fit
      · rcases List.mem_cons.mp exception with rfl | hm
        · rw [← Option.some.inj (hr.symm.trans hr')] at active ⊢
          simp only [active, Bool.true_and, decide_eq_true_eq, Nat.not_le] at fits
          exact .inl fits
        · exact .inr hm
  · next hr =>
    refine { h with score := fun m r' hr' active => (h.score m r' hr' active).imp id fun hm => ?_ }
    rcases List.mem_cons.mp hm with rfl | hm
    · exact absurd (hr.symm.trans hr') (by simp)
    · exact hm

theorem rechecks {ns : List Nat} {acc : State × Nat} (h : acc.1.LawfulBut γ ns []) :
    (ns.foldl Machine.recheck acc).1.LawfulBut γ [] [] := by
  induction ns generalizing acc with
  | nil => exact h
  | cons n rest ih => exact ih h.recheck

/-- A threshold of a lawful view is at least 1 (R4). -/
theorem one_le_threshold {g : Configuration} {generation : Nat → BitVec 4} (h : g.lawful generation) {n : Nat}
    {c : EndpointConfig} (hc : g.endpoints.find n = some c) : 1 ≤ c.threshold := by
  obtain ⟨endpoints, _, _⟩ := h
  obtain ⟨_, ⟨_, _, _, _, _, _, _, _, low, _⟩, _⟩ := endpoints _ (Table.mem_of_find hc)
  exact low

theorem one_le_threshold_of_find (h : s.LawfulBut γ X Y) {n : Nat} {r : Record} (hr : s.records.find n = some r) :
    1 ≤ r.config.threshold := by
  refine one_le_threshold h.views.committed (n := n) ?_
  rw [State.committed]
  dsimp only
  rw [Table.find_mapValues, hr]
  rfl

/-- A record after the commit point is fresh, or one that the re-check takes (R43, R108). -/
theorem installStaging {g : Configuration} (h : s.LawfulBut γ [] []) (hg : s.session.staging? = some g) :
    (installStaging g s).LawfulBut (installStaging g s).generations (s.kept g) [] := by
  obtain ⟨tables, views⟩ := views_installStaging hg h.tables h.views
  have record : ∀ n r, (Machine.installStaging g s).records.find n = some r →
      ∃ c, g.endpoints.find n = some c ∧ r = s.committedRecord n c := by
    intro n r hr
    rw [Machine.installStaging] at hr
    dsimp only at hr
    rw [Table.find_mapValues, Option.map_eq_some_iff] at hr
    obtain ⟨c, hc, rfl⟩ := hr
    exact ⟨c, hc, rfl⟩
  have kept : ∀ n c old, g.endpoints.find n = some c → s.records.find n = some old → old.config.sameRoute c = true →
      n ∈ s.kept g := fun n c old hc hold route =>
    List.mem_map.mpr ⟨(n, old), List.mem_filter.mpr ⟨Table.mem_of_find hold, by simp [hc, route]⟩, rfl⟩
  refine ⟨tables, views, rfl, fun n r hr active => ?_, fun n r hr inactive => ?_⟩
  · obtain ⟨c, hc, rfl⟩ := record n r hr
    have low := one_le_threshold (h.views.staging g hg) hc
    rw [State.committedRecord]
    split
    · next old hold =>
      dsimp only
      split
      · next route => exact .inr (kept n c old hc hold route)
      · exact .inl low
    · exact .inl low
  · obtain ⟨c, hc, rfl⟩ := record n r hr
    rw [State.committedRecord] at inactive
    split at inactive
    · next old hold =>
      dsimp only at inactive
      split at inactive
      · refine (h.reservation n old hold inactive).imp (fun none_ => ?_) id
        have same : (Machine.installStaging g s).handleAt n = s.handleAt n := by
          rw [State.handleAt, generation_installStaging h.tables.1, if_neg (by simp [hc])]
          rfl
        rw [same]
        exact none_
      · exact absurd inactive (by simp [Runtime.fresh, Health.isActive])
    · exact absurd inactive (by simp [Runtime.fresh, Health.isActive])

/-- The commit point restores the law by its re-check (R43, R108). -/
theorem commitPoint (h : s.Lawful) : (commitPoint s).Lawful := by
  rw [Machine.commitPoint]
  split
  · next l g k hs =>
    have checked := (h.installStaging (congrArg Session.staging? hs)).rechecks (acc := (Machine.installStaging g s, 0))
    exact ((keptDelivery_lawful _ [] []).raise l.other .directoryChanged .none
      ((keptDelivery_lawful _ [] []).respond l k.tag .ok _ checked)).lawful
  · exact h

theorem examine (h : s.Lawful) (hs : List Handle) : (examine hs s).Lawful := by
  rw [Machine.examine]
  split
  · exact h.commitPoint
  · exact h

end State.LawfulBut

/-! ### Commands -/

/-- The change keeps the laws of the directory and the canonical tables. -/
def LawsKept (s t : State) : Prop :=
  s.Lawful → t.Lawful

theorem LawsKept.trans {s t u : State} (h : LawsKept s t) (g : LawsKept t u) : LawsKept s u :=
  g ∘ h

/-- A change of neither the records, the generations nor the reservations. -/
theorem LawsKept.of_same {s t : State} (v : ViewsKept s t) (same : SameRecords s t) : LawsKept s t :=
  fun h => (h.congr v same).lawful

/-- The score that an outcome leaves is below the threshold, unless a quarantine entry is due (R97, R107); a probe that
is OK leaves 0 (R114). -/
theorem lawful_reportHealth {s u : State} {γ : Table (BitVec 4)} (t : Txn) (o : Status) (h : u.LawfulBut γ [] [])
    (same : s.record? t.handle = u.record? t.handle) :
    (reportHealth t o u).LawfulBut γ (if entryDue s t o then [t.handle.slot] else []) [] := by
  rw [reportHealth]
  split
  · next r hr =>
    have found : u.records.find t.handle.slot = some r := by
      rw [State.record?] at hr
      split at hr
      · exact hr
      · exact absurd hr (by simp)
    refine h.setRuntime t.handle _ (fun _ hn => absurd hn List.not_mem_nil) (fun _ hn => hn) ?_ ?_
    all_goals
      intro r' hr'
      rw [← Option.some.inj (hr.symm.trans hr')]
      rw [reported]
    · split
      · split
        · exact fun _ => .inl (h.one_le_threshold_of_find found)
        · intro active
          rw [Health.isActive_unprobed] at active
          exact .inl (by simpa using h.score _ r found active)
      · next probe =>
        intro active
        have below := h.score _ r found active
        simp only [List.not_mem_nil, or_false] at below
        rw [entryDue, same, hr]
        dsimp only at active ⊢
        by_cases counts : o.counts = true
        · by_cases reached : r.config.threshold ≤ scoreAfter r.config.weight r.runtime.score o
          · right
            simp [active, probe, counts, reached]
          · exact .inl (Nat.not_le.mp reached)
        · left
          rw [scoreAfter]
          split
          · omega
          · simpa [counts] using below
    · split
      · split
        · exact fun inactive => absurd inactive (by simp [Health.isActive])
        · intro inactive
          rw [Health.isActive_unprobed] at inactive
          exact .inl inactive
      · exact .inl
  · next hr =>
    exact h.weaken (fun _ hn => absurd hn List.not_mem_nil) fun _ hn => hn

theorem laws_complete (p : Port) (o : Status) (d : List Byte) (s : State) : LawsKept s (complete p o d s) := by
  intro h
  rw [complete]
  split
  · next t ht =>
    have ended : (s.setEngine p ((s.engine p).afterOutcome o s.now)).Lawful :=
      h.congr (.of_same (keeps_setEngine ..) (.of_eq rfl rfl rfl rfl rfl) rfl) ⟨rfl, rfl, rfl⟩
    have delivered := (keptDelivery_lawful _ _ _).deliver t o d
      ((keptDelivery_lawful _ _ _).freeSlot t.slot (lawful_reportHealth (s := s) t o ended rfl))
    rw [followUp]
    refine State.LawfulBut.examine ?_ _
    split
    · next due =>
      rw [if_pos due] at delivered
      refine (delivered.quarantineEntry (X := []) _ _ fun n hn => .inr ?_).lawful
      rw [List.mem_singleton.mp hn]
      rw [entryDue] at due
      split at due
      · next r hr =>
        rw [State.record?] at hr
        split at hr
        · next valid => exact congrArg (Handle.mk _) valid.symm
        · exact absurd hr (by simp)
      · exact absurd due (by decide)
    · next due =>
      rw [if_neg due] at delivered
      exact delivered.lawful
  · exact h

/-- A reservation of an ACTIVE record joins the others (R139, R140). -/
theorem laws_reserve (l : Link) (e : Time) {h : Handle} {r : Record} {s : State} (hr : s.record? h = some r)
    (active : r.runtime.health.isActive = true) :
    LawsKept s { s with reservations := s.reservations ++ [{ handle := h, holder := l, expiry := e }] } := by
  intro lawful
  refine (lawful.of_reservations
    (.of_same ((keptStep_keeps).on_reserve l e hr active) (.of_eq rfl rfl rfl rfl rfl) rfl) rfl rfl
    fun n r' hr' inactive none_ => ?_).lawful
  rw [State.reservation?] at none_ ⊢
  dsimp only
  rw [List.find?_append, none_, Option.none_or, List.find?_cons_of_neg, List.find?_nil]
  intro same
  rw [decide_eq_true_eq] at same
  subst same
  rw [State.record?] at hr
  split at hr
  · rw [← Option.some.inj (hr.symm.trans hr'), active] at inactive
    exact absurd inactive (by decide)
  · exact absurd hr (by simp)

theorem laws_moveExpiry (h : Handle) (e : Time) (s : State) : LawsKept s (moveExpiry h e s) := by
  intro lawful
  refine (lawful.of_reservations (.of_same (keptStep_keeps.on_moveExpiry h e s) (.of_eq rfl rfl rfl rfl rfl) rfl) rfl
    rfl fun n r hr inactive none_ => ?_).lawful
  rw [State.reservation?, List.find?_eq_none] at none_ ⊢
  intro x hx
  obtain ⟨y, hy, rfl⟩ := List.mem_map.mp hx
  have other := none_ y hy
  split
  · exact other
  · exact other

/-- A change of a runtime part by neither state nor score. -/
theorem laws_setRuntime {h : Handle} {r : Record} {s : State} (hr : s.record? h = some r) {rt : Runtime}
    (health : rt.health.isActive = r.runtime.health.isActive) (score : rt.score = r.runtime.score) :
    LawsKept s (s.setRuntime h rt) :=
  fun lawful => (lawful.setRuntime_same hr health score).lawful

theorem laws_clearScore {h : Handle} {r : Record} {s : State} (_ : s.record? h = some r)
    (active : r.runtime.health.isActive = true) : LawsKept s (s.setRuntime h { r.runtime with score := 0 }) := by
  intro lawful
  refine (lawful.setRuntime (X' := []) (Y' := []) h _ (fun _ hn => absurd hn List.not_mem_nil) (fun _ hn => hn)
    (fun r' hr' _ => ?_) fun _ _ inactive => ?_).lawful
  · rw [State.record?] at hr'
    split at hr'
    · exact .inl (lawful.one_le_threshold_of_find hr')
    · exact absurd hr' (by simp)
  · exact absurd inactive (by simp [active])

/-- SOFT_RESET ends every reservation, and changes no score (R23, R149). -/
theorem laws_resetBlocks (s : State) : LawsKept s (resetBlocks s) := by
  intro lawful
  obtain ⟨tables, views⟩ := ViewsKept.of_unarmed (keeps_resetBlocks s) (sameDirectory_resetBlocks s)
    (fun _ hg => absurd hg (by simp [resetBlocks, Session.staging?])) (fun _ _ _ => by simp [resetBlocks])
    lawful.tables lawful.views
  refine ⟨tables, views, rfl, fun n r hr active => ?_, fun n r hr inactive => .inl rfl⟩
  rw [resetBlocks] at hr
  dsimp only at hr
  rw [Table.find_mapValues, Option.map_eq_some_iff] at hr
  obtain ⟨old, hold, rfl⟩ := hr
  refine lawful.score n old hold ?_
  rw [← active]
  exact (Health.isActive_unprobed _).symm

/-- After power-on the laws hold, whatever was before (R182). -/
theorem lawful_empty {s : State} (tables : s.tablesSorted) (records : s.records = []) (segments : s.segments = [])
    (groups : s.groups = []) (session : s.session = .absent) : s.Lawful :=
  ⟨tables, viewLaws_empty records segments groups session, rfl, fun _ _ hr => absurd hr (by simp [records]),
    fun _ _ hr => absurd hr (by simp [records])⟩

/-- Arming revokes and removes, and may reach the commit point (R39, R40). -/
theorem laws_arm {l : Link} {g : Configuration} {e : Time} (tag : Tag) (mode : CommitMode) (d : Option Nat) {s : State}
    (hs : s.session = .opened l g e) : LawsKept s (arm l tag mode d g s) := by
  intro lawful
  have armed : (armSession l tag mode d g s).Lawful := by
    obtain ⟨tables, views⟩ := views_armSession tag mode d hs lawful.tables lawful.views
    exact ⟨tables, views, rfl, lawful.score, lawful.reservation⟩
  have acted : (armingActions mode (armSession l tag mode d g s)).Lawful := by
    cases mode with
    | wait => exact armed
    | preempt =>
      have removed := (keptRemoval_lawful _ [] []).removeAll (armSession l tag .preempt d g s).preempted
        (some .cancelledCommit) armed
      exact (foldl_keeps (Q := fun u : State => u.LawfulBut _ [] []) _
        (fun _ x hu => hu.revokeReservation (x := x) fun _ hn => .inl hn) _ removed).lawful
  rw [arm, commitIfAtRest]
  split
  · exact acted.commitPoint
  · exact acted

/-- What no law reads is changed freely. -/
theorem laws_frame {s t : State} (f : SameButIdle s t) : LawsKept s t :=
  .of_same (.of_same (keptStep_keeps.frame f)
    (.of_eq f.epoch f.tables.segments f.tables.groups f.tables.generations f.tables.records) f.tables.session)
    ⟨f.tables.records, f.tables.generations, f.reservations⟩

theorem laws_setLink {s : State} {l : Link} {i : LinkState} (h : LinkKept (s.link l) i) : LawsKept s (s.setLink l i) :=
  .of_same (.of_same (keeps_setLink h) (.of_eq rfl rfl rfl rfl rfl) rfl) ⟨rfl, rfl, rfl⟩

theorem keptFan_laws (s : State) : KeptFan (LawsKept s) where
  waiting ws h lawful := ((keptDelivery_lawful _ [] []).waiting ws (h lawful)).lawful
  setContext hx hl ht h lawful := ((keptDelivery_lawful _ [] []).setContext hx hl ht (h lawful)).lawful
  closeContext d hx h lawful := ((keptDelivery_lawful _ [] []).closeContext d hx (h lawful)).lawful
  placeMember _ _ _ _ _ _ _ _ _ issued open_ admitted h lawful :=
    ((keptDelivery_lawful _ [] []).placeMember _ _ _ _ _ _ _ _ _ issued open_ admitted (h lawful)).lawful

theorem keptStep_laws : KeptStep LawsKept LawsKept where
  refl _ := id
  trans := .trans
  weaken h := h
  after_setLink hi := (laws_setLink hi).trans
  after_frame f := (laws_frame f).trans
  frame := laws_frame
  fan := keptFan_laws
  on_setLink := laws_setLink
  on_setUnit hu := .of_same (.of_same (keeps_setUnit hu) (.of_eq rfl rfl rfl rfl rfl) rfl) ⟨rfl, rfl, rfl⟩
  on_respond _ _ _ _ _ := .of_same (views_respond _ _ _ _ _) (sameRecords_respond ..)
  on_place _ _ _ _ _ _ _ _ _ _ open_ := .of_same (views_place _ _ _ _ _ _ _ _ open_) (sameRecords_place ..)
  on_mapPool f h1 h2 := .of_same (.of_same (keeps_mapPool f h1 h2) (.of_eq rfl rfl rfl rfl rfl) rfl) ⟨rfl, rfl, rfl⟩
  on_setTxn ht h1 h2 := .of_same (.of_same (keeps_setTxn ht h1 h2) (.of_eq rfl rfl rfl rfl rfl) rfl) ⟨rfl, rfl, rfl⟩
  on_setContext _ _ _ := .of_same (.of_same (keeps_setContext ..) (.of_eq rfl rfl rfl rfl rfl) rfl) ⟨rfl, rfl, rfl⟩
  on_dropContexts f s := .of_same (.of_same (keptStep_keeps.on_dropContexts f s) (.of_eq rfl rfl rfl rfl rfl) rfl)
    ⟨rfl, rfl, rfl⟩
  on_complete := laws_complete
  on_removeExamined t o s h := ((keptRemoval_lawful _ [] []).removeQueued t o h).lawful.examine _
  on_examine hs s h := h.examine hs
  on_removeReservation h s lawful := (lawful.removeReservation h).lawful
  on_moveExpiry := laws_moveExpiry
  on_reserve l e _ _ _ hr ha := laws_reserve l e hr ha
  on_operatorEntry h s lawful := (lawful.quarantineEntry h _ fun _ hn => .inl hn).lawful
  on_setWriteBusy h w s := by
    rcases setWriteBusy_eq h w s with eq | ⟨r, hr, eq⟩
    · rw [eq]
      exact id
    · rw [eq]
      exact laws_setRuntime hr rfl rfl
  on_probed hr := laws_setRuntime hr (Health.isActive_probed _) rfl
  on_cleared := laws_clearScore
  on_arm := laws_arm
  on_reopen e s hs := by
    have staging := congrArg Session.staging? hs
    exact .of_same (.of_unarmed (keeps_sameStaging staging.symm) (.of_eq rfl rfl rfl rfl rfl)
      (fun _ hg => staging.trans hg) (fun _ _ _ h => absurd h (by simp))) ⟨rfl, rfl, rfl⟩
  on_dropSession s := .of_same (.of_unarmed (keeps_dropSession s) (.of_eq rfl rfl rfl rfl rfl)
    (fun _ hg => absurd hg (by simp [dropSession, Session.staging?]))
    (fun _ _ _ h => absurd h (by simp [dropSession]))) ⟨rfl, rfl, rfl⟩
  on_resetBlocks := laws_resetBlocks
  on_openSession l tag s _ := by
    obtain ⟨records, generations, reservations⟩ := sameRecords_respond l tag .ok [] (openSession l s)
    exact .of_same (views_openSession tag) ⟨records, generations, reservations⟩
  on_addEndpoint tag _ hs hb := .of_same (views_addEndpoint tag hs (inRange_of_recordBlock hb).2)
    (addEndpoint_cases (fun _ => sameRecords_respond ..) (sameRecords_applyEdit _ _ · · _) _)
  on_modifyEndpoint tag _ hs hb := .of_same
    (views_modifyEndpoint tag hs (inRange_of_modifyBlock hb).1 (inRange_of_modifyBlock hb).2)
    (modifyEndpoint_cases (fun _ => sameRecords_respond ..) (sameRecords_applyEdit _ _ · · _) _ _)
  on_retireEndpoint tag h _ hs := .of_same (views_retireEndpoint tag h hs)
    (retireEndpoint_cases (fun _ => sameRecords_respond ..) (sameRecords_applyEdit _ _ · · _) _)
  on_addSegment tag x _ hs := .of_same (views_addSegment tag x hs)
    (addSegment_cases (fun _ => sameRecords_respond ..) (sameRecords_applyEdit _ _ · · _) _)
  on_retireSegment tag _ hs _ := .of_same (views_retireSegment tag hs)
    (retireSegment_cases (fun _ => sameRecords_respond ..) (sameRecords_applyEdit _ _ · · _) _)
  on_setGroup tag _ hs hb := .of_same
    (views_setGroup tag hs (range_of_setGroupBlock hb).1 (range_of_setGroupBlock hb).2.1
        (range_of_setGroupBlock hb).2.2)
    (setGroup_cases (fun _ => sameRecords_respond ..) (sameRecords_applyEdit _ _ · · _) _ _)

/-- Settles O60: what breaks the law of R106 on the way, the command's quarantine entries make up for. -/
theorem directoryLawsAreKept : Obligations.DirectoryLawsAreKept := by
  unfold Obligations.DirectoryLawsAreKept
  intro s t tables laws h
  have lawful : t.Lawful := keptStep_laws.on_anyStep
    (fun s lawful => lawful_empty ((keeps_assertRstn s).tables lawful.tables) rfl rfl rfl rfl)
    (fun straps s lawful => lawful_empty ((keeps_powerOn _ s).tables lawful.tables) rfl rfl rfl rfl) h
    ((lawful_iff tables).mpr laws)
  exact (lawful_iff lawful.tables).mp lawful

end Sys2Proof.Machine
end

section
/-! SUPPORT. The tags that work in the part owes a link (R170), counted: what each change of the pool, the contexts, the
session, the engines and the link does to the count. -/
namespace Sys2Proof

/-- A table in canonical form is what is found under a key, and the rest. -/
theorem Table.perm_remove {α : Type} {t : Table α} {k : Nat} {v : α} (hs : t.sorted = true) (h : t.find k = some v) :
    List.Perm t ((k, v) :: t.remove k) := by
  have absent : (k, v) ∉ t.remove k := fun hm => ((Table.mem_remove_iff t).mp hm).2 rfl
  have rest : List.Nodup (t.remove k) := .of_map _ (Table.nodup_keys (Table.sorted_remove k hs))
  refine (List.perm_ext_iff_of_nodup (.of_map _ (Table.nodup_keys hs)) (List.nodup_cons.mpr ⟨absent, rest⟩)).mpr ?_
  intro ⟨n, x⟩
  rw [List.mem_cons, Table.mem_remove_iff]
  constructor
  · intro hm
    by_cases hn : n = k
    · subst hn
      rw [Table.find_of_mem hs hm] at h
      exact .inl (by rw [Option.some.inj h])
    · exact .inr ⟨hm, hn⟩
  · rintro (eq | ⟨hm, _⟩)
    · rw [eq]
      exact Table.mem_of_find h
    · exact hm

/-- With one more value, it is that value and the rest. -/
theorem Table.perm_put {α : Type} {t : Table α} (k : Nat) (v : α) (hs : t.sorted = true) :
    List.Perm (t.put k v) ((k, v) :: t.remove k) := by
  have same : (t.put k v).remove k = t.remove k := by
    refine Table.ext (Table.sorted_remove k (Table.sorted_put k v hs)) (Table.sorted_remove k hs) fun n => ?_
    by_cases hn : n = k
    · rw [hn, Table.find_remove_self, Table.find_remove_self]
    · rw [Table.find_remove_ne _ _ _ hn, Table.find_remove_ne _ _ _ hn, Table.find_put_ne _ _ _ _ hn]
  rw [← same]
  exact Table.perm_remove (Table.sorted_put k v hs) (Table.find_put_self _ _ _)

theorem Table.remove_of_find_eq_none {α : Type} {t : Table α} {k : Nat} (h : t.find k = none) : t.remove k = t :=
  List.filter_eq_self.mpr fun e he => decide_eq_true ((Table.find_eq_none_iff t k).mp h e he)

end Sys2Proof

namespace Sys2Proof.Machine

/-! ### Tags that are owed -/

/-- The tag of a request of a link, where it is this link. -/
def tagFor (m l : Link) (tag : Tag) : List Tag :=
  if l = m then [tag] else []

/-- The tag that the work of an engine answers on a link (R78). -/
def Engine.tagOn? (e : Engine) (m : Link) : Option Tag :=
  e.work.bind fun w => w.tagOn? m

/-- The tag that a context answers on a link (R162). -/
def Context.tagOn? (x : Context) (m : Link) : Option Tag :=
  if x.link = m then some x.tag else none

/-- How often transactions owe a tag on a link. -/
def poolDebt (m : Link) (g : Tag) (ts : List Txn) : Nat :=
  (ts.filterMap fun t => t.tagOn? m).count g

/-- How often contexts owe it. -/
def contextDebt (m : Link) (g : Tag) (xs : Table Context) : Nat :=
  (xs.filterMap fun e => e.2.tagOn? m).count g

/-- How often the engines owe it. -/
def engineDebt (m : Link) (g : Tag) (engines : PerPort Engine) : Nat :=
  (Port.all.filterMap fun p => (engines.get p).tagOn? m).count g

/-- How often a tag is owed on a link. -/
def State.debt (s : State) (m : Link) (g : Tag) : Nat :=
  poolDebt m g s.pool + contextDebt m g s.contexts + (s.session.tagOn? m).toList.count g + engineDebt m g s.engines

theorem count_owed (s : State) (m : Link) (g : Tag) : (s.owed m).count g = s.debt m g := by
  simp only [State.owed, List.count_append]
  rfl

/-- The outstanding tags of a link are exactly those that are owed and those of the command in hand, each once; with
what this rests on. -/
structure State.Owes (m : Link) (hand : List Tag) (s : State) : Prop where
  slots : (s.pool.map Txn.slot).Nodup
  contexts : s.contexts.sorted = true
  attributed : ∀ t ∈ s.pool, ∀ l, (t.tagOn? l).isSome = true → t.attributed = l
  count : ∀ g, s.debt m g + hand.count g = (s.link m).outstanding.count g

theorem tagsOwed_iff {s : State} : s.tagsOwed ↔ s.tagsDistinct ∧ ∀ m, s.Owes m [] := by
  constructor
  · intro ⟨distinct, slots, contexts, attributed, owed⟩
    refine ⟨distinct, fun m => ⟨slots, contexts, attributed, fun g => ?_⟩⟩
    rw [← count_owed, (owed m).count_eq g]
    rfl
  · intro ⟨distinct, owes⟩
    refine ⟨distinct, (owes .a).slots, (owes .a).contexts, (owes .a).attributed, fun m => ?_⟩
    refine List.perm_iff_count.mpr fun g => ?_
    rw [count_owed]
    exact (owes m).count g

/-! ### What no change of the owed tags is -/

/-- The two states owe the same tags, and the same ones are outstanding. -/
structure SameOwed (s t : State) : Prop where
  pool : t.pool = s.pool
  contexts : t.contexts = s.contexts
  session : ∀ m, t.session.tagOn? m = s.session.tagOn? m
  work : ∀ p m, (t.engine p).tagOn? m = (s.engine p).tagOn? m
  outstanding : ∀ m, (t.link m).outstanding = (s.link m).outstanding

theorem SameOwed.refl (s : State) : SameOwed s s :=
  ⟨rfl, rfl, fun _ => rfl, fun _ _ => rfl, fun _ => rfl⟩

theorem SameOwed.trans {s t u : State} (h : SameOwed s t) (g : SameOwed t u) : SameOwed s u :=
  ⟨g.pool.trans h.pool, g.contexts.trans h.contexts, fun m => (g.session m).trans (h.session m),
    fun p m => (g.work p m).trans (h.work p m), fun m => (g.outstanding m).trans (h.outstanding m)⟩

/-- A change of none of the five. -/
theorem SameOwed.of_eq {s t : State} (pool : t.pool = s.pool) (contexts : t.contexts = s.contexts)
    (session : t.session = s.session) (engines : t.engines = s.engines) (links : t.links = s.links) : SameOwed s t :=
  ⟨pool, contexts, fun m => by rw [session], fun p m => by rw [State.engine, engines, State.engine],
    fun m => by rw [State.link, links, State.link]⟩

theorem sameOwed_setLink {s : State} {l : Link} {i : LinkState} (h : i.outstanding = (s.link l).outstanding) :
    SameOwed s (s.setLink l i) := by
  refine ⟨rfl, rfl, fun _ => rfl, fun _ _ => rfl, fun m => ?_⟩
  rw [State.link_setLink]
  split
  · next eq => rw [h, eq]
  · rfl

theorem sameOwed_setEngine {s : State} {p : Port} {e : Engine}
    (h : ∀ m, e.tagOn? m = (s.engine p).tagOn? m) : SameOwed s (s.setEngine p e) := by
  refine ⟨rfl, rfl, fun _ => rfl, fun q m => ?_, fun _ => rfl⟩
  rw [State.engine_setEngine]
  split
  · next eq => rw [h, eq]
  · rfl

theorem sameOwed_raise (l : Link) (kind : AttentionKind) (x : Subject) (s : State) : SameOwed s (raise l kind x s) :=
  sameOwed_setLink rfl

theorem sameOwed_setRuntime (h : Handle) (rt : Runtime) (s : State) : SameOwed s (s.setRuntime h rt) := by
  rw [State.setRuntime]
  split
  · exact .of_eq rfl rfl rfl rfl rfl
  · exact .refl s

theorem State.Owes.congr {s t : State} {m : Link} {hand : List Tag} (h : s.Owes m hand) (same : SameOwed s t) :
    t.Owes m hand := by
  obtain ⟨slots, contexts, attributed, count⟩ := h
  refine ⟨by rwa [same.pool], by rwa [same.contexts], by rwa [same.pool], fun g => ?_⟩
  have engines : engineDebt m g t.engines = engineDebt m g s.engines :=
    congrArg (List.count g) (List.filterMap_congr fun p _ => same.work p m)
  rw [same.outstanding, ← count g, State.debt, State.debt, same.pool, same.contexts, same.session, engines]

/-! ### Transactions -/

theorem poolDebt_cons (m : Link) (g : Tag) (t : Txn) (ts : List Txn) :
    poolDebt m g (t :: ts) = (t.tagOn? m).toList.count g + poolDebt m g ts := by
  rw [poolDebt, List.filterMap_cons]
  split
  · next none_ =>
    rw [none_]
    exact (Nat.zero_add _).symm
  · next x some_ =>
    rw [some_, Option.toList_some, ← List.singleton_append, List.count_append]
    rfl

theorem poolDebt_perm (m : Link) (g : Tag) {ts us : List Txn} (h : ts.Perm us) : poolDebt m g ts = poolDebt m g us :=
  (h.filterMap _).count_eq g

theorem poolDebt_append (m : Link) (g : Tag) (ts : List Txn) (t : Txn) :
    poolDebt m g (ts ++ [t]) = poolDebt m g ts + (t.tagOn? m).toList.count g := by
  rw [poolDebt_perm m g (List.perm_append_singleton t ts), poolDebt_cons, Nat.add_comm]

/-- The tag that a transaction of an origin answers on a link (R60). -/
def Origin.tagOn? (o : Origin) (m : Link) : Option Tag :=
  match o with
  | .transact l tag => if l = m then some tag else none
  | .releaseProbe l tag => if l = m then some tag else none
  | .member _ _ => none

theorem tagOn?_of_not_orphan {t : Txn} {m : Link} (h : t.orphan = false) : t.tagOn? m = t.origin.tagOn? m := by
  rw [Txn.tagOn?, h]
  rfl

/-- In a pool of distinct slots, a transaction and the rest. -/
theorem pool_perm {ts : List Txn} {t : Txn} (hs : (ts.map Txn.slot).Nodup) (ht : t ∈ ts) :
    ts.Perm (t :: ts.filter fun u => decide (u.slot ≠ t.slot)) := by
  have distinct : ts.Nodup := .of_map _ hs
  have absent : t ∉ ts.filter fun u => decide (u.slot ≠ t.slot) := by simp
  refine (List.perm_ext_iff_of_nodup distinct (List.nodup_cons.mpr ⟨absent, distinct.filter _⟩)).mpr fun u => ?_
  rw [List.mem_cons, List.mem_filter, decide_eq_true_eq]
  constructor
  · intro hu
    by_cases same : u.slot = t.slot
    · exact .inl (List.inj_on_of_nodup_map hs hu ht same)
    · exact .inr ⟨hu, same⟩
  · rintro (rfl | ⟨hu, _⟩)
    · exact ht
    · exact hu

section
variable {s : State} {m : Link} {hand : List Tag}

/-- The tag of a transaction that leaves the pool is in hand. -/
theorem State.Owes.withoutSlot (h : s.Owes m hand) {t : Txn} (ht : t ∈ s.pool) :
    (s.withoutSlot t.slot).Owes m ((t.tagOn? m).toList ++ hand) := by
  obtain ⟨slots, contexts, attributed, count⟩ := h
  refine ⟨(List.filter_sublist.map Txn.slot).nodup slots, contexts,
    fun u hu => attributed u (List.mem_of_mem_filter hu), fun g => ?_⟩
  have parts : poolDebt m g s.pool = (t.tagOn? m).toList.count g + poolDebt m g (s.withoutSlot t.slot).pool :=
    (poolDebt_perm m g (pool_perm slots ht)).trans (poolDebt_cons m g t _)
  have before : poolDebt m g s.pool + contextDebt m g s.contexts + (s.session.tagOn? m).toList.count g +
    engineDebt m g s.engines + hand.count g = (s.link m).outstanding.count g := count g
  rw [List.count_append]
  change poolDebt m g (s.withoutSlot t.slot).pool + contextDebt m g s.contexts + (s.session.tagOn? m).toList.count g +
    engineDebt m g s.engines + _ = (s.link m).outstanding.count g
  omega

/-- A response answers a tag in hand (R170). -/
theorem State.Owes.respond {l : Link} {tag : Tag} (o : Status) (d : List Byte)
    (h : s.Owes m (tagFor m l tag ++ hand)) : (respond l tag o d s).Owes m hand := by
  obtain ⟨slots, contexts, attributed, count⟩ := h
  refine ⟨by rwa [respond_pool], by rwa [respond_contexts], by rwa [respond_pool], fun g => ?_⟩
  have before := count g
  have same : (Machine.respond l tag o d s).debt m g = s.debt m g := by
    rw [Machine.respond]
    split <;> rfl
  rw [same]
  by_cases hl : l = m
  · subst hl
    have held : tag ∈ (s.link l).outstanding := by
      have mine := count tag
      rw [tagFor, if_pos rfl, List.count_append, List.count_singleton_self] at mine
      exact List.count_pos_iff.mp (by omega)
    rw [respond_outstanding _ _ _ _ _ held, State.link_setLink_self]
    rw [tagFor, if_pos rfl, List.count_append, List.count_singleton] at before
    dsimp only
    rw [List.count_erase]
    by_cases mine : (tag == g) = true
    · rw [if_pos mine] at before ⊢
      omega
    · rw [if_neg mine] at before ⊢
      omega
  · rw [tagFor, if_neg hl, List.nil_append] at before
    rw [before, Machine.respond]
    split
    · rw [State.link_setLink, if_neg (Ne.symm hl)]
    · rfl

/-- A transaction that joins the pool owes a tag in hand. -/
theorem State.Owes.withTxn {t : Txn} (h : s.Owes m ((t.tagOn? m).toList ++ hand)) (fresh :
    ∀ u ∈ s.pool, u.slot ≠ t.slot)
    (own : ∀ k, (t.tagOn? k).isSome = true → t.attributed = k) :
    ({ s with pool := s.pool ++ [t] } : State).Owes m hand := by
  obtain ⟨slots, contexts, attributed, count⟩ := h
  refine ⟨?_, contexts, fun u hu k hk => ?_, fun g => ?_⟩
  · rw [List.map_append]
    refine List.nodup_append.mpr ⟨slots, List.nodup_singleton _, fun x hx y hy => ?_⟩
    obtain ⟨u, hu, rfl⟩ := List.mem_map.mp hx
    rw [List.mem_singleton.mp hy]
    exact fresh u hu
  · rcases List.mem_append.mp hu with hu | hu
    · exact attributed u hu k hk
    · rw [List.mem_singleton.mp hu] at hk ⊢
      exact own k hk
  · have before : poolDebt m g s.pool + contextDebt m g s.contexts + (s.session.tagOn? m).toList.count g +
      engineDebt m g s.engines + _ = (s.link m).outstanding.count g := count g
    rw [List.count_append] at before
    change poolDebt m g (s.pool ++ [t]) + contextDebt m g s.contexts + (s.session.tagOn? m).toList.count g +
      engineDebt m g s.engines + _ = (s.link m).outstanding.count g
    rw [poolDebt_append]
    omega

/-- A placement under the slot check adds a transaction of its origin in a FREE slot (R50, R157). -/
theorem place_open {origin : Origin} {l : Link} (x : Handle) (cfg : EndpointConfig) (op : Operation)
    (index : Option (BitVec 24)) (length : Option Nat) (data : List Byte) (deadline : Time)
    (open_ : s.slotOpen l = true) :
    ∃ t, Machine.place origin l x cfg op index length data deadline s = { s with pool := s.pool ++ [t] } ∧
      t.origin = origin ∧ t.orphan = false ∧ t.attributed = l ∧ ∀ u ∈ s.pool, u.slot ≠ t.slot := by
  rw [State.slotOpen, Bool.and_eq_true] at open_
  obtain ⟨n, hn⟩ := Option.isSome_iff_exists.mp open_.1
  rw [Machine.place, hn]
  exact ⟨_, rfl, rfl, rfl, rfl, fun u hu => by simpa using List.any_eq_false.mp (lowestFree_some hn).2 u hu⟩

/-- A placement puts a tag in hand to the transaction that is placed. -/
theorem State.Owes.place {origin : Origin} {l : Link} (x : Handle) (cfg : EndpointConfig) (op : Operation)
    (index : Option (BitVec 24)) (length : Option Nat) (data : List Byte) (deadline : Time)
    (open_ : s.slotOpen l = true) (own : ∀ k, (origin.tagOn? k).isSome = true → l = k)
    (h : s.Owes m ((origin.tagOn? m).toList ++ hand)) :
    (Machine.place origin l x cfg op index length data deadline s).Owes m hand := by
  obtain ⟨t, placed, rfl, orphan, rfl, fresh⟩ := place_open (origin := origin) x cfg op index length data deadline open_
  rw [placed]
  rw [← tagOn?_of_not_orphan orphan] at h
  refine h.withTxn fresh fun k hk => own k ?_
  rwa [← tagOn?_of_not_orphan orphan]

/-! ### Contexts -/

theorem contextDebt_perm (m : Link) (g : Tag) {xs ys : Table Context} (h : List.Perm xs ys) :
    contextDebt m g xs = contextDebt m g ys :=
  (h.filterMap _).count_eq g

theorem contextDebt_cons (m : Link) (g : Tag) (c : Nat) (x : Context) (xs : Table Context) :
    contextDebt m g ((c, x) :: xs) = (tagFor m x.link x.tag).count g + contextDebt m g xs := by
  rw [contextDebt, List.filterMap_cons, Context.tagOn?, tagFor]
  split
  · next none_ =>
    rw [if_neg (by simpa using none_)]
    exact (Nat.zero_add _).symm
  · next tag some_ =>
    split at some_
    · next mine =>
      rw [if_pos mine, ← List.singleton_append, List.count_append, Option.some.inj some_]
      rfl
    · exact absurd some_ (by simp)

theorem contextDebt_put (m : Link) (g : Tag) {xs : Table Context} (hs : xs.sorted = true) (c : Nat) (x : Context) :
    contextDebt m g (xs.put c x) = (tagFor m x.link x.tag).count g + contextDebt m g (xs.remove c) :=
  (contextDebt_perm m g (Table.perm_put c x hs)).trans (contextDebt_cons ..)

theorem contextDebt_remove (m : Link) (g : Tag) {xs : Table Context} (hs : xs.sorted = true) {c : Nat} {x : Context}
    (hx : xs.find c = some x) :
    contextDebt m g xs = (tagFor m x.link x.tag).count g + contextDebt m g (xs.remove c) :=
  (contextDebt_perm m g (Table.perm_remove hs hx)).trans (contextDebt_cons ..)

/-- A change of the contexts, by what they owe. -/
theorem State.Owes.withContexts {xs : Table Context} {hand' : List Tag} (h : s.Owes m hand) (sorted : xs.sorted = true)
    (debt : ∀ g, contextDebt m g xs + hand'.count g = contextDebt m g s.contexts + hand.count g) :
    ({ s with contexts := xs } : State).Owes m hand' := by
  refine ⟨h.slots, sorted, h.attributed, fun g => ?_⟩
  have before : poolDebt m g s.pool + contextDebt m g s.contexts + (s.session.tagOn? m).toList.count g +
    engineDebt m g s.engines + hand.count g = (s.link m).outstanding.count g := h.count g
  change poolDebt m g s.pool + contextDebt m g xs + (s.session.tagOn? m).toList.count g +
    engineDebt m g s.engines + _ = (s.link m).outstanding.count g
  have := debt g
  omega

theorem respond_withContexts (l : Link) (tag : Tag) (o : Status) (d : List Byte) (xs : Table Context) (s : State) :
    respond l tag o d { s with contexts := xs } = { respond l tag o d s with contexts := xs } := by
  by_cases h : tag ∈ (s.link l).outstanding
  · rw [respond_outstanding _ _ _ _ _ h, respond_outstanding _ _ _ _ _ (by exact h)]
    rfl
  · rw [respond_not_outstanding _ _ _ _ _ h, respond_not_outstanding _ _ _ _ _ (by exact h)]

theorem keptFan_owes (m : Link) (hand : List Tag) : KeptFan fun s => s.Owes m hand where
  waiting ws h := h.congr (.of_eq rfl rfl rfl rfl rfl)
  setContext hx hl ht h := h.withContexts (Table.sorted_put _ _ h.contexts) fun g => by
    rw [contextDebt_put m g h.contexts, contextDebt_remove m g h.contexts hx, hl, ht]
  closeContext {s c x} d hx h := by
    have dropped : ({ s with contexts := s.contexts.remove c } : State).Owes m (tagFor m x.link x.tag ++ hand) :=
      h.withContexts (Table.sorted_remove c h.contexts) fun g => by
        rw [contextDebt_remove m g h.contexts hx, List.count_append]
        omega
    rw [← respond_withContexts]
    exact dropped.respond .ok d
  placeMember c i x cfg op index length data deadline _ open_ _ h :=
    State.Owes.place x cfg op index length data deadline open_ (fun _ hk => absurd hk (by simp [Origin.tagOn?])) h

/-! ### Removals and completions -/

/-- A slot that becomes FREE puts the tag of its transaction in hand (R59). -/
theorem State.Owes.freeSlot (h : s.Owes m hand) {t : Txn} (ht : t ∈ s.pool) :
    (Machine.freeSlot t.slot s).Owes m ((t.tagOn? m).toList ++ hand) :=
  (keptFan_owes m _).handOut (h.withoutSlot ht)

theorem tagOn?_toList (o : Origin) (l : Link) (tag : Tag)
    (ho : o = .transact l tag ∨ o = .releaseProbe l tag) : (o.tagOn? m).toList = tagFor m l tag := by
  rcases ho with rfl | rfl
  all_goals
    rw [Origin.tagOn?, tagFor]
    split <;> rfl

/-- A delivery answers the tag of its transaction (R60, R61). -/
theorem State.Owes.deliver {t : Txn} (o : Status) (d : List Byte) (h : s.Owes m ((t.tagOn? m).toList ++ hand)) :
    (deliver t o d s).Owes m hand := by
  rw [Machine.deliver]
  split
  · next orphan =>
    have none_ : t.tagOn? m = none := by rw [Txn.tagOn?, if_pos orphan]
    rw [none_] at h
    split
    · exact (h.congr (sameOwed_raise ..)).congr (sameOwed_raise ..)
    · exact h
  · next orphan =>
    rw [tagOn?_of_not_orphan (Bool.eq_false_iff.mpr orphan)] at h
    rw [deliverTo]
    split
    · next l tag ho =>
      rw [tagOn?_toList _ l tag (.inl ho)] at h
      exact h.respond _ _
    · next l tag ho =>
      rw [tagOn?_toList _ l tag (.inr ho)] at h
      dsimp only
      split
      · exact (h.respond _ _).congr (sameOwed_raise ..)
      · exact h.respond _ _
    · next c i ho =>
      rw [ho] at h
      exact (keptFan_owes m hand).issuePass _ ((keptFan_owes m hand).recordOutcome _ _ _ _ h)

theorem sameOwed_unprobe (x : Handle) (s : State) : SameOwed s (unprobe x s) := by
  rw [unprobe]
  split
  · exact sameOwed_setRuntime _ _ s
  · exact .refl s

/-- The removal of a queued transaction frees its slot and answers it, or is silent (R57). -/
theorem State.Owes.removeQueued (h : s.Owes m hand) {t : Txn} (ht : t ∈ s.pool) {o : Option Status}
    (silent : o = none → t.tagOn? m = none) : (removeQueued t o s).Owes m hand := by
  have freed : (Machine.freeSlot t.slot (if t.origin.isProbe then unprobe t.handle s else s)).Owes m
      ((t.tagOn? m).toList ++ hand) := by
    split
    · have same := sameOwed_unprobe t.handle s
      exact (h.congr same).freeSlot (by rwa [same.pool])
    · exact h.freeSlot ht
  unfold Machine.removeQueued
  cases o with
  | some o => exact freed.deliver o []
  | none =>
    rw [silent rfl] at freed
    exact freed

theorem keptQueue_owes (m : Link) (hand : List Tag) : KeptQueue fun s => s.Owes m hand where
  removeQueued _ ht h := h.removeQueued ht (fun none_ => absurd none_ (by simp))
  raise _ _ _ h := h.congr (sameOwed_raise ..)
  setRuntime _ _ h := h.congr (sameOwed_setRuntime ..)
  removeReservation _ h := h.congr (.of_eq rfl rfl rfl rfl rfl)

/-- A change of the session, by what it owes. -/
theorem State.Owes.withSession {x : Session} {hand' : List Tag} (h : s.Owes m hand)
    (debt : ∀ g, (x.tagOn? m).toList.count g + hand'.count g = (s.session.tagOn? m).toList.count g + hand.count g) :
    ({ s with session := x } : State).Owes m hand' := by
  refine ⟨h.slots, h.contexts, h.attributed, fun g => ?_⟩
  have before : poolDebt m g s.pool + contextDebt m g s.contexts + (s.session.tagOn? m).toList.count g +
    engineDebt m g s.engines + hand.count g = (s.link m).outstanding.count g := h.count g
  change poolDebt m g s.pool + contextDebt m g s.contexts + (x.tagOn? m).toList.count g +
    engineDebt m g s.engines + _ = (s.link m).outstanding.count g
  have := debt g
  omega

theorem tagOn?_armed (l : Link) (g : Configuration) (k : CommitRecord) :
    ((Session.armed l g k).tagOn? m).toList = tagFor m l k.tag := by
  rw [Session.tagOn?, tagFor]
  split <;> rfl

/-- The commit point puts the tag of the COMMIT in hand and answers it (R43). -/
theorem State.Owes.commitPoint (h : s.Owes m hand) : (commitPoint s).Owes m hand := by
  rw [Machine.commitPoint]
  split
  · next l g k hs =>
    have absent : ({ s with session := .absent } : State).Owes m (tagFor m l k.tag ++ hand) :=
      h.withSession fun x => by
        rw [hs, tagOn?_armed, List.count_append]
        simp [Session.tagOn?]
    have installed : (installStaging g s).Owes m (tagFor m l k.tag ++ hand) :=
      absent.congr (.of_eq rfl rfl rfl rfl rfl)
    exact (((keptQueue_owes m _).rechecks installed).respond .ok _).congr (sameOwed_raise ..)
  · exact h

theorem keptExam_owes (m : Link) (hand : List Tag) : KeptExam fun s => s.Owes m hand where
  toKeptQueue := keptQueue_owes m hand
  commitPoint h := h.commitPoint

/-- Work that holds a slot answers no tag of its own. -/
theorem tagOn?_of_slot {w : Work} {n : Nat} (h : w.slot? = some n) : w.tagOn? m = none := by
  cases w with
  | selecting n ws => rfl
  | polling n => rfl
  | transferring n => rfl
  | clearing kind => exact absurd h (by simp [Work.slot?])

theorem mem_of_txn? {n : Nat} {t : Txn} (h : s.txn? n = some t) : t ∈ s.pool :=
  List.mem_of_find?_eq_some h

/-- The engine of an ACTIVE transaction answers no tag of its own. -/
theorem tagOn?_of_active {p : Port} {t : Txn} (h : s.activeTxn? p = some t) : (s.engine p).tagOn? m = none := by
  rw [State.activeTxn?, Option.bind_eq_some_iff] at h
  obtain ⟨n, hn, _⟩ := h
  rw [Engine.activeSlot?, Option.bind_eq_some_iff] at hn
  obtain ⟨w, hw, hslot⟩ := hn
  rw [Engine.tagOn?, hw]
  exact tagOn?_of_slot hslot

theorem sameOwed_reportHealth (t : Txn) (o : Status) (s : State) : SameOwed s (reportHealth t o s) := by
  rw [reportHealth]
  split
  · exact sameOwed_setRuntime _ _ s
  · exact .refl s

/-- A completion answers its transaction (R59). -/
theorem State.Owes.complete (h : s.Owes m hand) (p : Port) (o : Status) (d : List Byte) :
    (complete p o d s).Owes m hand := by
  rw [Machine.complete]
  split
  · next t ht =>
    have ended : SameOwed s (s.setEngine p ((s.engine p).afterOutcome o s.now)) := sameOwed_setEngine fun k => by
      rw [tagOn?_of_active ht, Engine.tagOn?, Engine.afterOutcome]
      dsimp only
      split <;> rfl
    have reported := ended.trans (sameOwed_reportHealth t o _)
    have freed := (h.congr reported).freeSlot (t := t) (by
      rw [reported.pool]
      exact mem_pool_of_activeTxn ht)
    exact (keptExam_owes m hand).followUp _ _ (freed.deliver o d)
  · exact h

end

end Sys2Proof.Machine
end

section
/-! SUPPORT. The tags owed through the requests: what each takes in hand it answers, or leaves to a transaction, a
context, the session or an engine (R37, R50, R78, R150). -/
namespace Sys2Proof.Machine

/-! ### Containment units -/

/-- The changes of a containment unit keep the predicate. -/
structure KeptUnits (P : State → Prop) : Prop where
  setUnit : ∀ {s : State} (p : Port) (u : Containment), P s → P (s.setUnit p u)
  raise : ∀ {s : State} (l : Link) (kind : AttentionKind) (x : Subject), P s → P (raise l kind x s)

namespace KeptUnits

variable {P : State → Prop}

theorem raiseBoth (k : KeptUnits P) {s : State} (kind : AttentionKind) (x : Subject) (h : P s) :
    P (raiseBoth kind x s) :=
  k.raise _ _ _ (k.raise _ _ _ h)

theorem clearPort (k : KeptUnits P) {s : State} (p : Port) (h : P s) : P (clearPort p s) :=
  k.raiseBoth _ _ (k.setUnit p _ h)

theorem joinCause (k : KeptUnits P) {s : State} (p : Port) (c : Cause) (h : P s) : P (joinCause p c s) := by
  rw [Machine.joinCause]
  split
  · exact h
  · exact k.raiseBoth _ _ (k.setUnit p _ h)

theorem recover (k : KeptUnits P) {s : State} (p : Port) (h : P s) : P (recover p s) := by
  rw [Machine.recover]
  split
  · exact k.clearPort p h
  · exact k.setUnit p _ h
  · exact k.setUnit p _ h

theorem leaveCause (k : KeptUnits P) {s : State} (p : Port) (c : Cause) (h : P s) : P (leaveCause p c s) := by
  rw [Machine.leaveCause]
  split
  · dsimp only
    split
    · exact k.recover p (k.setUnit p _ h)
    · exact k.setUnit p _ h
  · exact h

theorem reportStuck (k : KeptUnits P) {s : State} (p : Port) (h : P s) : P (reportStuck p s) :=
  k.setUnit p _ (k.joinCause p _ h)

theorem joinArbitrationIfDue (k : KeptUnits P) {s : State} (p : Port) (h : P s) : P (joinArbitrationIfDue p s) := by
  rw [Machine.joinArbitrationIfDue]
  split
  · exact k.joinCause p _ h
  · exact h

theorem reportLoss (k : KeptUnits P) {s : State} (p : Port) (h : P s) : P (reportLoss p s) :=
  k.joinArbitrationIfDue p (k.setUnit p _ h)

end KeptUnits

section
variable {s : State} {m : Link} {hand : List Tag}

theorem keptUnits_owes (m : Link) (hand : List Tag) : KeptUnits fun s => s.Owes m hand where
  setUnit _ _ h := h.congr (.of_eq rfl rfl rfl rfl rfl)
  raise _ _ _ h := h.congr (sameOwed_raise ..)

/-! ### Engines and lines -/

theorem sameOwed_putLines (p : Port) (scl sda other : Bool) (s : State) : SameOwed s (putLines p scl sda other s) :=
  .of_eq rfl rfl rfl rfl rfl

theorem sameOwed_releaseLines (p : Port) (s : State) : SameOwed s (releaseLines p s) :=
  (sameOwed_putLines ..).trans (sameOwed_putLines ..)

theorem sameOwed_endPhase (p : Port) (s : State) : SameOwed s (endPhase p s) :=
  (sameOwed_setEngine (e := { s.engine p with phase := none }) fun _ => rfl).trans (sameOwed_releaseLines p _)

theorem sameOwed_setWriteBusy (h : Handle) (w : Option WriteBusy) (s : State) : SameOwed s (setWriteBusy h w s) := by
  rcases setWriteBusy_eq h w s with eq | ⟨r, _, eq⟩
  · rw [eq]
    exact .refl s
  · rw [eq]
    exact sameOwed_setRuntime _ _ s

theorem tagOn?_firstWork (t : Txn) (s : State) : (s.firstWork t).tagOn? m = none := by
  rw [State.firstWork]
  split
  · rw [State.afterSelection]
    split <;> rfl
  · rfl

/-- An arbiter takes work that answers no tag of its own, in an engine that had none (R68). -/
theorem sameOwed_runArbiter (p : Port) (s : State) : SameOwed s (runArbiter p s) := by
  rw [runArbiter]
  split
  · next idle =>
    split
    · refine sameOwed_setEngine fun k => ?_
      rw [Engine.idle, Bool.and_eq_true, Option.isNone_iff_eq_none] at idle
      rw [Engine.tagOn?, Engine.tagOn?, idle.2]
      exact tagOn?_firstWork _ s
    · exact .refl s
  · exact .refl s

theorem sameOwed_settle (told : List Port) (before s : State) : SameOwed s (settle told before s) :=
  foldl_keeps (Q := SameOwed s) _ (fun u p hu => by
    split
    · exact hu.trans (sameOwed_runArbiter p u)
    · exact hu) _ (.refl s)

theorem engineDebt_eq (m : Link) (g : Tag) (es : PerPort Engine) :
    engineDebt m g es = (Port.all.map fun p => ((es.get p).tagOn? m).toList.count g).sum := by
  rw [engineDebt, List.filterMap_eq_flatMap_toList, List.count_flatMap]
  rfl

theorem engineDebt_set (m : Link) (g : Tag) (es : PerPort Engine) (p : Port) (e : Engine) :
    engineDebt m g (es.set p e) + ((es.get p).tagOn? m).toList.count g =
      engineDebt m g es + (e.tagOn? m).toList.count g := by
  rw [engineDebt_eq, engineDebt_eq]
  simp only [Port.all, List.map_cons, List.map_nil, List.sum_cons, List.sum_nil, PerPort.get_set]
  cases p
  all_goals
    simp only [reduceCtorEq, if_true, if_false]
    omega

/-- A change of an engine, by what it owes. -/
theorem State.Owes.withEngine {p : Port} {e : Engine} {hand' : List Tag} (h : s.Owes m hand)
    (debt : ∀ g, (e.tagOn? m).toList.count g + hand'.count g =
      ((s.engine p).tagOn? m).toList.count g + hand.count g) : (s.setEngine p e).Owes m hand' := by
  refine ⟨h.slots, h.contexts, h.attributed, fun g => ?_⟩
  have before : poolDebt m g s.pool + contextDebt m g s.contexts + (s.session.tagOn? m).toList.count g +
    engineDebt m g s.engines + hand.count g = (s.link m).outstanding.count g := h.count g
  change poolDebt m g s.pool + contextDebt m g s.contexts + (s.session.tagOn? m).toList.count g +
    engineDebt m g (s.engines.set p e) + _ = (s.link m).outstanding.count g
  have set : engineDebt m g (s.engines.set p e) + ((s.engine p).tagOn? m).toList.count g =
    engineDebt m g s.engines + (e.tagOn? m).toList.count g := engineDebt_set m g s.engines p e
  have := debt g
  omega

theorem tagOn?_clearing (e : Engine) {k : Link} {tag : Tag} (h : e.work = some (.clearing (.manual (some (k, tag))))) :
    (e.tagOn? m).toList = tagFor m k tag := by
  rw [Engine.tagOn?, h, Option.bind_some, Work.tagOn?, tagFor]
  split <;> rfl

end

/-! ### What removals leave -/

/-- The directory and the session are the same: what everything but a commit point leaves. -/
structure SameViews (s t : State) : Prop extends SameDirectory s t where
  session : t.session = s.session

theorem SameViews.refl (s : State) : SameViews s s :=
  ⟨.refl s, rfl⟩

theorem SameViews.trans {s t u : State} (h : SameViews s t) (g : SameViews t u) : SameViews s u :=
  ⟨h.toSameDirectory.trans g.toSameDirectory, g.session.trans h.session⟩

theorem SameViews.record?_isSome {s t : State} (h : SameViews s t) (x : Handle) :
    (t.record? x).isSome = (s.record? x).isSome := by
  rw [State.record?, State.record?, h.generation]
  split
  · exact h.live _
  · rfl

theorem sameViews_place (origin : Origin) (l : Link) (h : Handle) (cfg : EndpointConfig) (op : Operation)
    (index : Option (BitVec 24)) (length : Option Nat) (data : List Byte) (deadline : Time) (s : State) :
    SameViews s (place origin l h cfg op index length data deadline s) := by
  obtain ⟨ts, eq⟩ := place_eq origin l h cfg op index length data deadline s
  rw [eq]
  exact ⟨.of_eq rfl rfl rfl rfl rfl, rfl⟩

theorem sameViews_respond (l : Link) (tag : Tag) (o : Status) (d : List Byte) (s : State) :
    SameViews s (respond l tag o d s) :=
  ⟨sameDirectory_respond .., respond_session ..⟩

theorem sameViews_setRuntime (h : Handle) (rt : Runtime) (s : State) : SameViews s (s.setRuntime h rt) :=
  ⟨sameDirectory_setRuntime .., setRuntime_session ..⟩

theorem keptRemoval_sameViews (s : State) : KeptRemoval (SameViews s) where
  waiting _ h := h.trans ⟨.of_eq rfl rfl rfl rfl rfl, rfl⟩
  setContext _ _ _ h := h.trans ⟨.of_eq rfl rfl rfl rfl rfl, rfl⟩
  closeContext _ _ h := h.trans ((sameViews_respond ..).trans ⟨.of_eq rfl rfl rfl rfl rfl, rfl⟩)
  placeMember _ _ _ _ _ _ _ _ _ _ _ _ h := h.trans (sameViews_place ..)
  dropSlot _ h := h.trans ⟨.of_eq rfl rfl rfl rfl rfl, rfl⟩
  respond _ _ _ _ h := h.trans (sameViews_respond ..)
  raise _ _ _ h := h.trans ⟨.of_eq rfl rfl rfl rfl rfl, rfl⟩
  unprobe x h := by
    rw [unprobe]
    split
    · exact h.trans (sameViews_setRuntime ..)
    · exact h

theorem keptQueue_sameViews (s : State) : KeptQueue (SameViews s) where
  removeQueued o _ h := (keptRemoval_sameViews s).removeQueued _ (some o) h
  raise := (keptRemoval_sameViews s).raise
  setRuntime _ _ h := h.trans (sameViews_setRuntime ..)
  removeReservation _ h := h.trans ⟨.of_eq rfl rfl rfl rfl rfl, rfl⟩

/-! ### Acceptance -/

section
variable {s : State} {m l : Link} {tag : Tag} {ps : List Byte}

/-- A tag that becomes outstanding is in hand (R169). -/
theorem State.Owes.withTag {hand : List Tag} {i : LinkState} (h : s.Owes m hand)
    (joins : i.outstanding = (s.link l).outstanding ++ [tag]) : (s.setLink l i).Owes m (tagFor m l tag ++ hand) := by
  refine ⟨h.slots, h.contexts, h.attributed, fun g => ?_⟩
  have before := h.count g
  change s.debt m g + _ = _
  rw [State.link_setLink, tagFor, List.count_append]
  by_cases hl : l = m
  · subst hl
    rw [if_pos rfl, if_pos rfl, joins, List.count_append]
    omega
  · rw [if_neg hl, if_neg (Ne.symm hl), List.count_nil]
    omega

theorem State.Owes.dropFrame {hand : List Tag} (h : s.Owes m hand) (l : Link) : (dropFrame l s).Owes m hand := by
  have counted : (s.setLink l { s.link l with frameErrors := min ((s.link l).frameErrors + 1) 255 }).Owes m hand :=
    h.congr (sameOwed_setLink rfl)
  exact counted.congr (sameOwed_raise ..)

theorem State.Owes.clockPut {hand : List Tag} (h : s.Owes m hand) (l : Link) (n : Nat) : (clockPut l n s).Owes m hand :=
  h.congr (sameOwed_setLink rfl)

/-- The response of the command in hand leaves nothing in hand. -/
theorem State.Owes.answered (h : s.Owes m (tagFor m l tag)) (o : Status) (d : List Byte) :
    (Machine.respond l tag o d s).Owes m [] :=
  State.Owes.respond (hand := []) o d (by rwa [List.append_nil])

/-- A request answers, or leaves to others, the tag that it is taken with. -/
def Discharges (m l : Link) (tag : Tag) (take : State → State) : Prop :=
  ∀ s : State, s.Owes m (tagFor m l tag) → (take s).Owes m []

theorem owes_acceptRequest {take : State → State} (take_ : Discharges m l tag take) (h : s.Owes m []) :
    (acceptRequest l tag ps take s).Owes m [] := by
  refine acceptRequest_cases h ((h.clockPut l _).dropFrame l) fun _ => take_ _ ?_
  have held := h.withTag (l := l) (tag := tag)
    (i := { s.link l with outstanding := (s.link l).outstanding ++ [tag], sent := putOut l ps }) rfl
  rwa [List.append_nil] at held

/-! ### Queries and the link interface -/

section
variable (m l : Link) (tag : Tag) (ps : List Byte)

theorem discharges_queryEndpoint : Discharges m l tag (takeQueryEndpoint l tag ps) := fun s hs => by
  refine withBlock_cases (hs.answered · []) fun (h, v) _ => ?_
  cases v with
  | committed => exact withRecord_cases (hs.answered · []) fun r _ => hs.answered _ _
  | staging =>
    refine withStaging_cases (hs.answered · []) fun g _ => ?_
    rw [queryStagedEndpoint]
    split
    · split
      · exact hs.answered _ _
      · exact hs.answered _ _
    · exact hs.answered _ _

theorem discharges_lookup : Discharges m l tag (takeLookup l tag ps) := fun s hs => by
  refine withBlock_cases (hs.answered · []) fun (v, key) _ => ?_
  refine withView_cases (hs.answered · []) fun g => ?_
  split
  · exact hs.answered _ _
  · exact hs.answered _ _

theorem discharges_listEndpoints : Discharges m l tag (takeListEndpoints l tag ps) := fun _ hs =>
  withBlock_cases (hs.answered · []) fun _ _ => withView_cases (hs.answered · []) fun _ => hs.answered _ _

theorem discharges_querySegment : Discharges m l tag (takeQuerySegment l tag ps) := fun s hs => by
  refine withBlock_cases (hs.answered · []) fun (n, v) _ => ?_
  cases v with
  | committed =>
    dsimp only
    rw [querySegmentCommitted]
    split
    · exact hs.answered _ _
    · exact hs.answered _ _
  | staging =>
    refine withStaging_cases (hs.answered · []) fun g _ => ?_
    rw [querySegmentStaged]
    split
    · exact hs.answered _ _
    · exact hs.answered _ _
    · exact hs.answered _ _
    · exact hs.answered _ _

theorem discharges_queryGroup : Discharges m l tag (takeQueryGroup l tag ps) := fun s hs => by
  refine withBlock_cases (hs.answered · []) fun (n, v) _ => ?_
  cases v with
  | committed => exact hs.answered _ _
  | staging => exact withStaging_cases (hs.answered · []) fun _ _ => hs.answered _ _

theorem discharges_queryDirectory : Discharges m l tag (takeQueryDirectory l tag ps) := fun _ hs =>
  withBlock_cases (hs.answered · []) fun _ _ => hs.answered _ _

theorem discharges_queryPort : Discharges m l tag (takeQueryPort l tag ps) := fun _ hs =>
  withBlock_cases (hs.answered · []) fun _ _ => hs.answered _ _

theorem discharges_identify : Discharges m l tag (takeIdentify l tag ps) := fun _ hs =>
  withBlock_cases (hs.answered · []) fun _ _ => hs.answered _ _

theorem discharges_configureLink : Discharges m l tag (takeConfigureLink l tag ps) := fun s hs =>
  withBlock_cases (hs.answered · []) fun c _ =>
    State.Owes.answered (s := configureLink l c s) (hs.congr (sameOwed_setLink rfl)) _ _

theorem discharges_configureDevice : Discharges m l tag (takeConfigureDevice l tag ps) := fun s hs =>
  withBlock_cases (hs.answered · []) fun (x, y) _ =>
    State.Owes.answered (s := configureDevice x y s) (hs.congr (.of_eq rfl rfl rfl rfl rfl)) _ _

theorem discharges_getAttention : Discharges m l tag (takeGetAttention l tag ps) := fun s hs =>
  withBlock_cases (hs.answered · []) fun _ _ =>
    State.Owes.answered (s := emptyAttention l s) (hs.congr (sameOwed_setLink rfl)) _ _

/-! ### The session -/

theorem discharges_openSession : Discharges m l tag (takeOpenSession l tag ps) := fun s hs => by
  refine withBlock_cases (hs.answered · []) fun _ _ => ?_
  split
  · next absent =>
    refine State.Owes.answered (s := openSession l s)
        (hs.congr ⟨rfl, rfl, fun _ => ?_, fun _ _ => rfl, fun _ => rfl⟩) _ _
    rw [absent]
    rfl
  · exact hs.answered _ _

theorem discharges_discardSession : Discharges m l tag (takeDiscardSession l tag ps) := fun s hs =>
  withBlock_cases (hs.answered · []) fun _ _ => withOpenSession_cases (hs.answered · []) fun _ _ opened =>
    State.Owes.answered (s := dropSession s)
      (hs.congr ⟨rfl, rfl, fun _ => by rw [opened]; rfl, fun _ _ => rfl, fun _ => rfl⟩) _ _

/-- An edit is answered (R29). -/
theorem owes_applyEdit {l : Link} {g : Configuration} {e : Time} {s : State} (opened : s.session = .opened l g e)
    (hs : s.Owes m (tagFor m l tag)) (g' : Configuration) (d : List Byte) : (applyEdit l tag g' d s).Owes m [] :=
  State.Owes.answered (s := { s with session := .opened l g' (s.after s.tSess) })
    (hs.congr ⟨rfl, rfl, fun _ => by rw [opened]; rfl, fun _ _ => rfl, fun _ => rfl⟩) _ _

theorem discharges_addEndpoint : Discharges m l tag (takeAddEndpoint l tag ps) := fun _ hs =>
  withBlock_cases (hs.answered · []) fun _ _ => withOpenSession_cases (hs.answered · []) fun _ _ opened =>
    addEndpoint_cases (hs.answered · []) (owes_applyEdit m tag opened hs) _

theorem discharges_modifyEndpoint : Discharges m l tag (takeModifyEndpoint l tag ps) := fun _ hs =>
  withBlock_cases (hs.answered · []) fun _ _ => withOpenSession_cases (hs.answered · []) fun _ _ opened =>
    modifyEndpoint_cases (hs.answered · []) (owes_applyEdit m tag opened hs) _ _

theorem discharges_retireEndpoint : Discharges m l tag (takeRetireEndpoint l tag ps) := fun _ hs =>
  withBlock_cases (hs.answered · []) fun _ _ => withOpenSession_cases (hs.answered · []) fun _ _ opened =>
    retireEndpoint_cases (hs.answered · []) (owes_applyEdit m tag opened hs) _

theorem discharges_addSegment : Discharges m l tag (takeAddSegment l tag ps) := fun _ hs =>
  withBlock_cases (hs.answered · []) fun _ _ => withOpenSession_cases (hs.answered · []) fun _ _ opened =>
    addSegment_cases (hs.answered · []) (owes_applyEdit m tag opened hs) _

theorem discharges_retireSegment : Discharges m l tag (takeRetireSegment l tag ps) := fun _ hs =>
  withBlock_cases (hs.answered · []) fun _ _ => withOpenSession_cases (hs.answered · []) fun _ _ opened =>
    retireSegment_cases (hs.answered · []) (owes_applyEdit m tag opened hs) _

theorem discharges_setGroup : Discharges m l tag (takeSetGroup l tag ps) := fun _ hs =>
  withBlock_cases (hs.answered · []) fun _ _ => withOpenSession_cases (hs.answered · []) fun _ _ opened =>
    setGroup_cases (hs.answered · []) (owes_applyEdit m tag opened hs) _ _

/-- An armed commit owes the tag of its COMMIT (R37). -/
theorem discharges_commit : Discharges m l tag (takeCommit l tag ps) := fun s hs =>
  withBlock_cases (hs.answered · []) fun (mode, d) _ => withOpenSession_cases (hs.answered · []) fun g _ opened => by
    have armed : (armSession l tag mode d g s).Owes m [] := hs.withSession fun x => by
      rw [tagOn?_armed, opened]
      simp [Session.tagOn?]
    have k := keptExam_owes m []
    exact (k.commitIfAtRest (k.armingActions mode armed)).congr (sameOwed_settle ..)

theorem respond_withSession (l : Link) (tag : Tag) (o : Status) (d : List Byte) (x : Session) (s : State) :
    respond l tag o d { s with session := x } = { respond l tag o d s with session := x } := by
  by_cases h : tag ∈ (s.link l).outstanding
  · rw [respond_outstanding _ _ _ _ _ h, respond_outstanding _ _ _ _ _ (by exact h)]
    rfl
  · rw [respond_not_outstanding _ _ _ _ _ h, respond_not_outstanding _ _ _ _ _ (by exact h)]

variable {m} in
/-- A commit that fails answers its COMMIT (R44, R45). -/
theorem State.Owes.failCommit {s : State} {hand : List Tag} (hs : s.Owes m hand) (o : Status) :
    (failCommit o s).Owes m hand := by
  rw [Machine.failCommit]
  split
  · next h g k armed =>
    have reopened : ({ s with session := .opened h g (s.after s.tSess) } : State).Owes m (tagFor m h k.tag ++ hand) :=
      hs.withSession fun x => by
        rw [armed, tagOn?_armed, List.count_append]
        simp [Session.tagOn?]
    rw [answer, ← respond_withSession]
    exact reopened.respond o []
  · exact hs

theorem discharges_abortCommit : Discharges m l tag (takeAbortCommit l tag ps) := fun s hs => by
  refine withBlock_cases (hs.answered · []) fun _ _ => ?_
  split
  · exact hs.answered _ _
  · exact hs.answered _ _
  · split
    · exact (hs.failCommit _).answered _ _
    · exact hs.answered _ _

/-! ### Transactions, health and reservations -/

theorem discharges_transact : Discharges m l tag (takeTransact l tag ps) := fun s hs => by
  refine withBlock_cases (hs.answered · []) fun (h, o) _ => ?_
  refine withRecord_cases (hs.answered · []) fun r _ => ?_
  refine unlessRefused_cases (hs.answered · []) fun passed => ?_
  refine State.Owes.congr (State.Owes.place _ _ _ _ _ _ _ (slotOpen_of_transactRefusal passed) (fun k hk => ?_) ?_)
    (sameOwed_settle ..)
  · by_contra ne
    simp [Origin.tagOn?, ne] at hk
  · rwa [tagOn?_toList _ l tag (.inl rfl), List.append_nil]

theorem discharges_release : Discharges m l tag (takeRelease l tag ps) := fun s hs => by
  refine withBlock_cases (hs.answered · []) fun h _ => ?_
  refine withRecord_cases (hs.answered · []) fun r _ => ?_
  refine unlessRefused_cases (hs.answered · []) fun passed => ?_
  refine State.Owes.congr (State.Owes.place _ _ _ _ _ _ _
    ((slotOpen_setRuntime _ _ l s).trans (slotOpen_of_releaseRefusal passed)) (fun k hk => ?_) ?_) (sameOwed_settle ..)
  · by_contra ne
    simp [Origin.tagOn?, ne] at hk
  · rw [tagOn?_toList _ l tag (.inr rfl), List.append_nil]
    exact hs.congr (sameOwed_setRuntime ..)

variable {m l tag} in
theorem owes_answerQuarantine {s : State} (hs : s.Owes m (tagFor m l tag)) {h : Handle}
    (live : (s.record? h).isSome = true) : (answerQuarantine l tag h s).Owes m [] := by
  obtain ⟨r, hr⟩ := Option.isSome_iff_exists.mp live
  rw [answerQuarantine, hr]
  exact hs.answered _ _

theorem discharges_quarantine : Discharges m l tag (takeQuarantine l tag ps) := fun s hs => by
  refine withBlock_cases (hs.answered · []) fun h _ => ?_
  refine withRecord_cases (hs.answered · []) fun r hr => ?_
  have live : (s.record? h).isSome = true := by rw [hr]; rfl
  refine unlessRefused_cases (hs.answered · []) fun _ => ?_
  rw [quarantineRecord]
  split
  · exact hs.answered _ _
  · exact owes_answerQuarantine hs live
  · split
    · exact hs.answered _ _
    · next unmarked =>
      have same := (keptQueue_sameViews s).quarantineEntry h .operator (.refl s)
      have unexamined : examine [h] (quarantineEntry h .operator s) = quarantineEntry h .operator s := by
        have none_ : (quarantineEntry h .operator s).commitPending h = false := by
          rw [State.commitPending, same.session]
          exact Bool.eq_false_iff.mpr unmarked
        simp [examine, none_]
      rw [operatorEntry, unexamined]
      refine State.Owes.congr (owes_answerQuarantine ((keptQueue_owes m _).quarantineEntry h _ hs) ?_)
        (sameOwed_settle ..)
      rw [same.record?_isSome]
      exact live

theorem discharges_clearScore : Discharges m l tag (takeClearScore l tag ps) := fun s hs => by
  refine withBlock_cases (hs.answered · []) fun h _ => ?_
  refine withRecord_cases (hs.answered · []) fun r hr => ?_
  refine unlessRefused_cases (hs.answered · []) fun _ => ?_
  rw [clearScore]
  split
  · exact State.Owes.answered (hs.congr (sameOwed_setRuntime ..)) _ _
  · exact hs.answered _ _

theorem discharges_reserve : Discharges m l tag (takeReserve l tag ps) := fun s hs => by
  refine withBlock_cases (hs.answered · []) fun (h, d) _ => ?_
  refine withRecord_cases (hs.answered · []) fun r hr => ?_
  refine unlessRefused_cases (hs.answered · []) fun _ => ?_
  rw [reserveRecord]
  split
  · exact State.Owes.answered (s := moveExpiry h (s.after d) s) (hs.congr (.of_eq rfl rfl rfl rfl rfl)) _ _
  · split
    · refine State.Owes.answered (s := { s with
        reservations := s.reservations ++ [{ handle := h, holder := l, expiry := s.after d }] }) ?_ _ _
      exact hs.congr (.of_eq rfl rfl rfl rfl rfl)
    · exact hs.answered _ _

theorem discharges_unreserve : Discharges m l tag (takeUnreserve l tag ps) := fun s hs => by
  refine withBlock_cases (hs.answered · []) fun h _ => ?_
  refine withRecord_cases (hs.answered · []) fun r hr => ?_
  refine unlessRefused_cases (hs.answered · []) fun _ => ?_
  rw [unreserveRecord]
  split
  · exact hs.answered _ _
  · split
    · have removed : (removeReservation h s).Owes m (tagFor m l tag) := hs.congr (.of_eq rfl rfl rfl rfl rfl)
      exact (((keptExam_owes m _).examine _ removed).answered _ _).congr (sameOwed_settle ..)
    · exact hs.answered _ _

/-! ### Groups -/

/-- A context owes the tag of its GROUP_TRANSACT (R150). -/
theorem discharges_groupTransact : Discharges m l tag (takeGroupTransact l tag ps) := fun s hs => by
  refine withBlock_cases (hs.answered · []) fun f _ => ?_
  rw [groupTransact]
  split
  · exact hs.answered _ _
  · split
    · exact hs.answered _ _
    · next c free =>
      have none_ : s.contexts.find c = none := by
        simpa [Option.isSome_eq_false_iff] using (lowestFree_some free).2
      have started : (s.setContext c (newContext l tag f (s.committed.group f.group) s)).Owes m [] :=
        hs.withContexts (Table.sorted_put _ _ hs.contexts) fun g => by
          rw [contextDebt_put m g hs.contexts, Table.remove_of_find_eq_none none_, Nat.add_comm _ (contextDebt ..)]
          rfl
      exact ((keptFan_owes m []).issuePass c started).congr (sameOwed_settle ..)

/-! ### Ports -/

variable {m} in
theorem State.Owes.filterComplete {s : State} {hand : List Tag} (hs : s.Owes m hand) (p : Port) :
    (filterComplete p s).Owes m hand := by
  have joined := (keptUnits_owes m hand).joinCause p .inhibit hs
  rw [Machine.filterComplete]
  split
  · exact (keptUnits_owes m hand).leaveCause p _ hs
  · split
    · exact hs
    · rw [joinInhibit]
      split
      · split
        · exact joined.complete p _ _
        · exact joined.congr (sameOwed_setEngine fun _ => rfl)
      · exact joined

variable {m} in
theorem State.Owes.applyEnable {s : State} {hand : List Tag} (hs : s.Owes m hand) (p : Port) (was : Bool) :
    (applyEnable p was s).Owes m hand := by
  unfold Machine.applyEnable
  split
  · exact (keptExam_owes m hand).removeAllExamined _ _ hs
  · rw [enableEngine]
    split
    · exact hs.congr (sameOwed_setEngine fun _ => rfl)
    · exact hs
  · exact hs

theorem discharges_configurePort : Discharges m l tag (takeConfigurePort l tag ps) := fun s hs => by
  refine withBlock_cases (hs.answered · []) fun (p, c) _ => ?_
  have replaced : (replaceConfig p c s).Owes m (tagFor m l tag) := hs.congr (sameOwed_setEngine fun _ => rfl)
  have joined := (keptUnits_owes m _).joinArbitrationIfDue p (replaced.applyEnable p (s.engine p).config.enable)
  refine State.Owes.congr (State.Owes.answered ?_ _ _) (sameOwed_settle ..)
  rw [filterIfDue]
  split
  · exact joined.filterComplete p
  · exact joined

/-- A manual clear owes the tag of its CLEAR_BUS (R78). -/
theorem discharges_clearBus : Discharges m l tag (takeClearBus l tag ps) := fun s hs => by
  refine withBlock_cases (hs.answered · []) fun p _ => ?_
  rw [clearBus]
  split
  · next idle =>
    rw [Engine.idle, Bool.and_eq_true, Option.isNone_iff_eq_none] at idle
    refine hs.withEngine fun g => ?_
    rw [tagOn?_clearing _ (k := l) (tag := tag) rfl, Engine.tagOn?, idle.2]
    exact Nat.add_comm _ _
  · exact hs.answered _ _

theorem discharges_resumePort : Discharges m l tag (takeResumePort l tag ps) := fun s hs => by
  refine withBlock_cases (hs.answered · []) fun p _ => ?_
  have resumed : (settle [] s (answer l tag .ok (clearPort p s))).Owes m [] :=
    (((keptUnits_owes m _).clearPort p hs).answered _ _).congr (sameOwed_settle ..)
  rw [resumePort]
  split
  · exact hs.answered _ _
  · exact hs.answered _ _
  · exact resumed
  · exact resumed

end

end

end Sys2Proof.Machine
end

section
/-! SUPPORT. The tags owed through resets, the events of the buses, timers and exchanges; every step keeps them (R47,
R61, R63, R78, R170). -/
namespace Sys2Proof.Machine

/-! ### LINK_RESET, on the link that is reset -/

/-- Nothing that the link waits for is left but the listed transactions, and the engines are these. -/
structure Silenced (l : Link) (ts : List Txn) (es : PerPort Engine) (s : State) : Prop where
  pool : ∀ t ∈ s.pool, (t.tagOn? l).isSome = true → t ∈ ts
  contexts : ∀ e ∈ s.contexts, e.2.link ≠ l
  session : s.session.tagOn? l = none
  engines : s.engines = es

theorem Silenced.congr {l : Link} {ts : List Txn} {es : PerPort Engine} {s t : State} (h : Silenced l ts es s)
    (pool : t.pool = s.pool) (contexts : t.contexts = s.contexts) (session : t.session = s.session)
    (engines : t.engines = s.engines) : Silenced l ts es t :=
  ⟨by rw [pool]; exact h.pool, by rw [contexts]; exact h.contexts, by rw [session]; exact h.session,
    engines.trans h.engines⟩

theorem Silenced.respond {l : Link} {ts : List Txn} {es : PerPort Engine} {s : State} (h : Silenced l ts es s)
    (k : Link) (tag : Tag) (o : Status) (d : List Byte) : Silenced l ts es (respond k tag o d s) :=
  h.congr (respond_pool ..) (respond_contexts ..) (respond_session ..) (respond_engines ..)

theorem keptEnd_silenced (l : Link) (ts : List Txn) (es : PerPort Engine) : KeptEnd (Silenced l ts es) where
  waiting _ h := h.congr rfl rfl rfl rfl
  setContext {s c x y} hx hl _ h := by
    refine ⟨h.pool, fun e he => ?_, h.session, h.engines⟩
    rcases Table.mem_put he with rfl | he
    · rw [hl]
      exact h.contexts _ (Table.mem_of_find hx)
    · exact h.contexts e he
  closeContext d _ h :=
    have answered := h.respond _ _ .ok d
    ⟨answered.pool, fun e he => h.contexts e ((Table.mem_remove_iff _).mp he).1, answered.session, answered.engines⟩
  placeMember c i x cfg op index length data deadline _ open_ _ h := by
    obtain ⟨t, placed, origin, orphan, _, _⟩ := place_open (origin := .member c i) x cfg op index length data deadline
      open_
    rw [placed]
    refine ⟨fun u hu hk => ?_, h.contexts, h.session, h.engines⟩
    rcases List.mem_append.mp hu with hu | hu
    · exact h.pool u hu hk
    · rw [List.mem_singleton.mp hu, tagOn?_of_not_orphan orphan, origin] at hk
      exact absurd hk (by simp [Origin.tagOn?])
  dropSlot _ h := ⟨fun u hu => h.pool u (List.mem_of_mem_filter hu), h.contexts, h.session, h.engines⟩
  respond _ _ _ _ h := h.respond _ _ _ _
  raise _ _ _ h := h.congr rfl rfl rfl rfl
  setRuntime x rt h := by
    rw [State.setRuntime]
    split
    · exact h.congr rfl rfl rfl rfl
    · exact h
  removeReservation _ h := h.congr rfl rfl rfl rfl
  installStaging _ h := ⟨h.pool, h.contexts, rfl, h.engines⟩

/-- The silent removal of the first listed transaction leaves the others (R63). -/
theorem Silenced.removeExamined {l : Link} {t : Txn} {ts : List Txn} {es : PerPort Engine} {s : State}
    (h : Silenced l (t :: ts) es s) : Silenced l ts es (removeExamined t none s) := by
  have k := keptEnd_silenced l ts es
  refine k.toKeptExam.examine _ ?_
  have unprobed : Silenced l (t :: ts) es (if t.origin.isProbe then unprobe t.handle s else s) := by
    split
    · exact (keptEnd_silenced l _ es).toKeptRemoval.unprobe _ h
    · exact h
  refine k.handOut ⟨fun u hu hk => ?_, unprobed.contexts, unprobed.session, unprobed.engines⟩
  obtain ⟨hmem, other⟩ := List.mem_filter.mp hu
  rcases List.mem_cons.mp (unprobed.pool u hmem hk) with rfl | listed
  · simp at other
  · exact listed

theorem Silenced.removeAllExamined {l : Link} {ts : List Txn} {es : PerPort Engine} {s : State}
    (h : Silenced l ts es s) : Silenced l [] es (removeAllExamined ts none s) := by
  rw [Machine.removeAllExamined]
  induction ts generalizing s with
  | nil => exact h
  | cons t rest ih =>
    refine ih ?_
    dsimp only
    split
    · exact h.removeExamined
    · next gone =>
      refine { h with pool := fun u hu hk => ?_ }
      rcases List.mem_cons.mp (h.pool u hu hk) with rfl | listed
      · exact absurd hu gone
      · exact listed

/-- Where nothing is left, and no engine owes, nothing is owed. -/
theorem Silenced.debt_eq_zero {l : Link} {es : PerPort Engine} {s : State} (h : Silenced l [] es s)
    (engines : ∀ p, (es.get p).tagOn? l = none) (g : Tag) : s.debt l g = 0 := by
  have pool : s.pool.filterMap (fun t => t.tagOn? l) = [] := by
    refine List.filterMap_eq_nil_iff.mpr fun t ht => ?_
    by_contra some_
    exact List.not_mem_nil (h.pool t ht (Option.isSome_iff_ne_none.mpr some_))
  have contexts : s.contexts.filterMap (fun e => e.2.tagOn? l) = [] :=
    List.filterMap_eq_nil_iff.mpr fun e he => if_neg (h.contexts e he)
  have works : Port.all.filterMap (fun p => (s.engines.get p).tagOn? l) = [] := by
    rw [h.engines]
    exact List.filterMap_eq_nil_iff.mpr fun p _ => engines p
  rw [State.debt, poolDebt, contextDebt, engineDebt, pool, contexts, works, h.session]
  rfl

theorem tagOn?_forget (w : Work) (l m : Link) :
    (w.forget l).tagOn? m = if m = l then none else w.tagOn? m := by
  cases w with
  | selecting n ws => simp [Work.forget, Work.tagOn?]
  | polling n => simp [Work.forget, Work.tagOn?]
  | transferring n => simp [Work.forget, Work.tagOn?]
  | clearing kind =>
    cases kind with
    | automatic => simp [Work.forget, ClearKind.forget, Work.tagOn?]
    | manual r =>
      cases r with
      | none => simp [Work.forget, ClearKind.forget, Work.tagOn?]
      | some r =>
        obtain ⟨k, tag⟩ := r
        rw [Work.forget, ClearKind.forget]
        split
        · next eq =>
          subst eq
          rw [Work.tagOn?]
          split
          · rfl
          · next ne => exact (if_neg (Ne.symm ne)).symm
        · next ne =>
          rw [Work.tagOn?]
          split
          · next eq => rw [if_neg (by rw [← eq]; exact ne)]
          · exact (ite_self none).symm

theorem tagOn?_forgetClears (l m : Link) (s : State) (p : Port) :
    ((forgetClears l s).engine p).tagOn? m = if m = l then none else (s.engine p).tagOn? m := by
  rw [State.engine, forgetClears]
  dsimp only
  rw [PerPort.get_map, Engine.tagOn?, Engine.tagOn?]
  dsimp only
  cases h : (s.engines.get p).work with
  | none => simp [State.engine, h]
  | some w =>
    rw [Option.map_some, Option.bind_some, tagOn?_forget, State.engine, h, Option.bind_some]

section
variable {s : State} {m l : Link} {hand : List Tag}

/-- Transactions that change in place and owe the same. -/
theorem State.Owes.mapPool (h : s.Owes m hand) (f : Txn → Txn) (slot : ∀ t ∈ s.pool, (f t).slot = t.slot)
    (same : ∀ t ∈ s.pool, (f t).tagOn? m = t.tagOn? m)
    (own : ∀ t ∈ s.pool, ∀ k, ((f t).tagOn? k).isSome = true → (f t).attributed = k) :
    ({ s with pool := s.pool.map f } : State).Owes m hand := by
  have debts : ∀ g, poolDebt m g (s.pool.map f) = poolDebt m g s.pool := fun g => by
    rw [poolDebt, poolDebt, List.filterMap_map]
    exact congrArg (List.count g) (List.filterMap_congr fun t ht => same t ht)
  refine ⟨?_, h.contexts, fun u hu k hk => ?_, fun g => ?_⟩
  · have slots : (s.pool.map f).map Txn.slot = s.pool.map Txn.slot := by
      rw [List.map_map]
      exact List.map_congr_left slot
    exact slots ▸ h.slots
  · obtain ⟨t, ht, rfl⟩ := List.mem_map.mp hu
    exact own t ht k hk
  · have before := h.count g
    rw [State.debt, ← debts] at before
    exact before

/-- The state in which the removals of a LINK_RESET begin (R63, R163, R180). -/
def markedForReset (l : Link) (s : State) : State :=
  markOrphans l (abandonContexts l (dropHeldSession l s))

theorem tagOn?_dropHeldSession (l k : Link) (s : State) :
    (dropHeldSession l s).session.tagOn? k = if k = l then none else s.session.tagOn? k := by
  rw [dropHeldSession]
  cases hs : s.session with
  | absent => simp [Session.holder?, hs, Session.tagOn?]
  | opened h g e =>
    simp only [Session.holder?, Option.some.injEq]
    split <;> simp [dropSession, hs, Session.tagOn?]
  | armed h g x =>
    simp only [Session.holder?, Option.some.injEq]
    split
    · next eq =>
      subst eq
      by_cases hk : k = h
      · simp [dropSession, Session.tagOn?, hk]
      · simp [dropSession, Session.tagOn?, hk, Ne.symm hk]
    · next ne =>
      by_cases hk : k = l
      · simp [hs, Session.tagOn?, hk, ne]
      · simp [hk, hs]

theorem dropHeldSession_eq (l : Link) (s : State) : ∃ x, dropHeldSession l s = { s with session := x } := by
  rw [dropHeldSession]
  split
  · exact ⟨.absent, rfl⟩
  · exact ⟨s.session, rfl⟩

/-- A transaction that becomes an orphan owes nothing any more (R61). -/
theorem tagOn?_orphan (c : Prop) [Decidable c] (t : Txn) (k : Link) :
    (if c then { t with orphan := true } else t).tagOn? k = if c then none else t.tagOn? k := by
  split <;> rfl

/-- Orphans of another link owed this one nothing. -/
theorem State.Owes.markOrphans (hs : s.Owes m hand) (other : m ≠ l) : (markOrphans l s).Owes m hand := by
  refine hs.mapPool _ (fun t _ => by split <;> rfl) (fun t ht => ?_) fun t ht k hk => ?_
  · rw [tagOn?_orphan]
    split
    · next mine =>
      have none_ : t.tagOn? m = none := by
        by_contra some_
        exact other ((hs.attributed t ht m (Option.isSome_iff_ne_none.mpr some_)).symm.trans mine.1)
      exact none_.symm
    · rfl
  · rw [tagOn?_orphan] at hk
    split at hk
    · exact absurd hk (by simp)
    · next whole =>
      rw [if_neg whole]
      exact hs.attributed t ht k hk

theorem contextDebt_filter (h : m ≠ l) (g : Tag) (xs : Table Context) :
    contextDebt m g (xs.filter fun e => decide (e.2.link ≠ l)) = contextDebt m g xs := by
  rw [contextDebt, contextDebt, List.filterMap_filter]
  refine congrArg (List.count g) (List.filterMap_congr fun e _ => ?_)
  rw [Context.tagOn?]
  by_cases mine : e.2.link = l
  · simp [mine, Ne.symm h]
  · simp [mine]

/-- What is marked for the reset of a link is nothing that another waits for. -/
theorem State.Owes.markedForReset (hs : s.Owes m []) (other : m ≠ l) : (markedForReset l s).Owes m [] := by
  have session := tagOn?_dropHeldSession l m s
  obtain ⟨x, dropped⟩ := dropHeldSession_eq l s
  rw [dropped, if_neg other] at session
  have kept : ({ s with session := x } : State).Owes m [] := hs.withSession fun g => by
    rw [← session]
  have abandoned : (abandonContexts l { s with session := x }).Owes m [] := by
    have filtered := kept.withContexts (hand' := []) (Table.sorted_filter (fun e => decide (e.2.link ≠ l)) hs.contexts)
      fun g => by rw [contextDebt_filter other]
    exact filtered.congr (.of_eq rfl rfl rfl rfl rfl)
  rw [Machine.markedForReset, dropped]
  exact abandoned.markOrphans other

/-- The queued transactions of a link owe another nothing, and their removal is silent (R63). -/
theorem State.Owes.removeMarked (hs : s.Owes m hand) (other : m ≠ l) {ts : List Txn}
    (own : ∀ t ∈ ts, t.attributed = l) : (removeAllExamined ts none s).Owes m hand := by
  refine removeAllExamined_keeps (fun u t listed ht hu => ?_) hs
  refine (keptExam_owes m hand).examine _ (hu.removeQueued ht fun _ => ?_)
  by_contra some_
  exact other ((hu.attributed t ht m (Option.isSome_iff_ne_none.mpr some_)).symm.trans (own t listed))

theorem attributed_of_queuedOfLink {t : Txn} (h : t ∈ s.queuedOfLink l) : t.attributed = l := by
  obtain ⟨p, _, hp⟩ := List.mem_flatMap.mp h
  exact of_decide_eq_true (List.mem_filter.mp hp).2

theorem State.Owes.forgetClears (hs : s.Owes m hand) (other : m ≠ l) : (forgetClears l s).Owes m hand := by
  have engines : ∀ g, engineDebt m g (Machine.forgetClears l s).engines = engineDebt m g s.engines := fun g =>
    congrArg (List.count g) (List.filterMap_congr fun p _ =>
      (tagOn?_forgetClears l m s p).trans (if_neg other))
  refine ⟨hs.slots, hs.contexts, hs.attributed, fun g => ?_⟩
  have before := hs.count g
  rw [State.debt, ← engines] at before
  exact before

theorem State.Owes.setOtherLink (hs : s.Owes m hand) (other : m ≠ l) (i : LinkState) : (s.setLink l i).Owes m hand :=
  ⟨hs.slots, hs.contexts, hs.attributed, fun g => by
    rw [State.link_setLink, if_neg other]
    exact hs.count g⟩

/-- The state of a LINK_RESET before its link interface is cleared. -/
def settledForReset (l : Link) (s : State) : State :=
  dropReservations l (forgetClears l (removeAllExamined ((markedForReset l s).queuedOfLink l) none
    (markedForReset l s)))

/-- Another link is owed what it was. -/
theorem State.Owes.settledForReset (hs : s.Owes m []) (other : m ≠ l) : (settledForReset l s).Owes m [] :=
  (keptExam_owes m []).dropReservations l (((hs.markedForReset other).removeMarked other
    fun _ ht => attributed_of_queuedOfLink ht).forgetClears other)

/-- What the link that is reset waits for are its queued transactions (R61, R63). -/
theorem silenced_markedForReset (hs : s.Owes m []) :
    Silenced l ((markedForReset l s).queuedOfLink l) (markedForReset l s).engines (markedForReset l s) := by
  refine ⟨fun t ht hk => ?_, fun e he => ?_, ?_, rfl⟩
  · obtain ⟨x, dropped⟩ := dropHeldSession_eq l s
    obtain ⟨old, hold, rfl⟩ := List.mem_map.mp ht
    rw [tagOn?_orphan] at hk
    split at hk
    · exact absurd hk (by simp)
    · next whole =>
      rw [if_neg whole] at ht ⊢
      have mine : old.attributed = l := by
        rw [dropped] at hold
        exact hs.attributed old hold l hk
      refine List.mem_flatMap.mpr ⟨old.snapshot.port, Port.mem_all _, List.mem_filter.mpr ⟨?_, decide_eq_true mine⟩⟩
      refine List.mem_filter.mpr ⟨ht, ?_⟩
      rw [Bool.and_eq_true, decide_eq_true_eq, Bool.not_eq_true']
      exact ⟨rfl, Bool.eq_false_iff.mpr fun active => whole ⟨mine, active⟩⟩
  · exact of_decide_eq_true (List.mem_filter.mp he).2
  · have session := tagOn?_dropHeldSession l l s
    rwa [if_pos rfl] at session

/-- The link that is reset is owed nothing (R47, R180). -/
theorem debt_settledForReset (hs : s.Owes m []) (g : Tag) : (settledForReset l s).debt l g = 0 := by
  have removed := (silenced_markedForReset (l := l) hs).removeAllExamined
  have forgotten : Silenced l [] (forgetClears l (removeAllExamined ((markedForReset l s).queuedOfLink l) none
      (markedForReset l s))).engines (forgetClears l (removeAllExamined ((markedForReset l s).queuedOfLink l) none
      (markedForReset l s))) := ⟨removed.pool, removed.contexts, removed.session, rfl⟩
  refine ((keptEnd_silenced l [] _).toKeptExam.dropReservations l forgotten).debt_eq_zero (fun p => ?_) g
  exact (tagOn?_forgetClears l l _ p).trans (if_pos rfl)

/-- After a LINK_RESET both links are owed what is outstanding: on its own link nothing. -/
theorem owes_resetLink (hs : ∀ k, s.Owes k []) (l m : Link) : (resetLink l s).Owes m [] := by
  change (clearLink l (settledForReset l s)).Owes m []
  by_cases own : m = l
  · subst own
    have base : (settledForReset m s).Owes m.other [] := (hs m.other).settledForReset (by cases m <;> decide)
    refine ⟨base.slots, base.contexts, base.attributed, fun g => ?_⟩
    rw [clearLink, State.link_setLink_self]
    exact congrArg (· + 0) (debt_settledForReset (hs m) g)
  · exact ((hs m).settledForReset own).setOtherLink own _

theorem owes_takeLinkReset (hs : ∀ k, s.Owes k []) (l m : Link) (tag : Tag) : (takeLinkReset l tag s).Owes m [] := by
  have held : (holdTag l tag (resetLink l s)).Owes m (tagFor m l tag ++ []) := (owes_resetLink hs l m).withTag rfl
  rw [List.append_nil] at held
  exact (held.answered _ _).congr (sameOwed_settle ..)

/-! ### SOFT_RESET and RSTN -/

/-- A part without work owes nothing. -/
theorem owes_empty (pool : s.pool = []) (contexts : s.contexts = []) (session : s.session = .absent)
    (engines : ∀ p, (s.engine p).work = none) (outstanding : (s.link m).outstanding = []) : s.Owes m [] := by
  refine ⟨by simp [pool], by rw [contexts]; rfl, fun t ht => absurd ht (by simp [pool]), fun g => ?_⟩
  have works : Port.all.filterMap (fun p => (s.engines.get p).tagOn? m) = [] :=
    List.filterMap_eq_nil_iff.mpr fun p _ => by
      rw [Engine.tagOn?, show (s.engines.get p).work = none from engines p]
      rfl
  rw [State.debt, poolDebt, contextDebt, engineDebt, pool, contexts, session, works, outstanding]
  rfl

theorem owes_resetDevice (m : Link) (s : State) : (resetDevice s).Owes m [] := by
  refine owes_empty rfl rfl rfl (fun p => ?_) ?_
  · change ((s.engines.map Engine.softReset).get p).work = none
    rw [PerPort.get_map]
    rfl
  · cases m <;> rfl

theorem owes_takeSoftReset (l m : Link) (tag : Tag) (s : State) : (takeSoftReset l tag s).Owes m [] := by
  have held : (holdTag l tag (resetDevice s)).Owes m (tagFor m l tag ++ []) := (owes_resetDevice m s).withTag rfl
  rw [List.append_nil] at held
  exact held.answered _ _

theorem owes_powerOn (m : Link) (a : BusAddress) (s : State) : (s.powerOn a).Owes m [] :=
  owes_empty rfl rfl rfl (fun p => by cases p <;> rfl) (by cases m <;> rfl)

theorem owes_assertRstn (m : Link) (s : State) : (assertRstn s).Owes m [] :=
  owes_empty rfl rfl rfl (fun p => by cases p <;> rfl) (by cases m <;> rfl)

end

end Sys2Proof.Machine
end

section
/-! SUPPORT. The tags owed through the events of the buses, the timers and the exchanges; every step keeps them (R170).
-/
namespace Sys2Proof.Machine

section
variable {s : State} {m : Link} {hand : List Tag}

/-! ### The events of a bus -/

theorem State.Owes.settled (h : s.Owes m hand) (told : List Port) (before : State) :
    (settle told before s).Owes m hand :=
  h.congr (sameOwed_settle ..)

theorem State.Owes.endPhase (h : s.Owes m hand) (p : Port) : (endPhase p s).Owes m hand :=
  h.congr (sameOwed_endPhase p s)

/-- The own effect of a boundary is reached with the work in hand that the boundary finds. -/
theorem State.Owes.atBoundary {own : State → State} {p : Port} (h : s.Owes m hand) (taken : (own s).Owes m hand) :
    (atBoundary p own s).Owes m hand := by
  rw [Machine.atBoundary]
  split
  · exact h.complete p _ _
  · exact taken

theorem State.Owes.upTo (h : s.Owes m hand) (e : Time) : (s.upTo e).Owes m hand :=
  h.congr (.of_eq rfl rfl rfl rfl rfl)

/-- An engine that goes on with work that owes nothing, from work that owes nothing. -/
theorem State.Owes.withWork {p : Port} {t : Txn} {e : Engine} (h : s.Owes m hand) (active : s.activeTxn? p = some t)
    (free : ∀ k, e.tagOn? k = none) : (s.setEngine p e).Owes m hand :=
  h.congr (sameOwed_setEngine fun k => (free k).trans (tagOn?_of_active active).symm)

theorem activeTxn?_setEngine {p : Port} {e : Engine} (h : e.work = (s.engine p).work) :
    (s.setEngine p e).activeTxn? p = s.activeTxn? p := by
  rw [State.activeTxn?, State.engine_setEngine_self, Engine.activeSlot?, h]
  rfl

theorem activeTxn?_endPhase (p : Port) (s : State) : (endPhase p s).activeTxn? p = s.activeTxn? p :=
  activeTxn?_setEngine (s := s) (e := { s.engine p with phase := none }) rfl

theorem State.Owes.startPhase (h : s.Owes m []) (p : Port) : (startPhase p s).Owes m [] := by
  rw [Machine.startPhase]
  split
  · split
    · refine State.Owes.congr ?_ (sameOwed_putLines ..)
      exact (h.upTo _).congr (sameOwed_setEngine fun _ => rfl)
    · exact h
  · exact h

theorem State.Owes.acknowledgeWrite (h : s.Owes m []) (p : Port) : (acknowledgeWrite p s).Owes m [] := by
  rw [Machine.acknowledgeWrite]
  split
  · next t n w rest active _ =>
    have opened : (setOpen p w.opens s).Owes m [] := h.congr (sameOwed_setEngine fun _ => rfl)
    refine State.Owes.settled ((opened.endPhase p).atBoundary ((opened.endPhase p).withWork
        (t := t) ?_ fun k => ?_)) _ _
    · rw [activeTxn?_endPhase]
      exact (activeTxn?_setEngine (e := { s.engine p with openChannel := w.opens }) rfl).trans active
    · rw [Engine.tagOn?]
      unfold State.nextSelection State.afterSelection
      cases rest with
      | nil =>
        dsimp only
        split <;> rfl
      | cons _ _ => rfl
  · exact h

theorem State.Owes.failSelection (h : s.Owes m []) (p : Port) : (failSelection p s).Owes m [] := by
  rw [Machine.failSelection]
  split
  · refine State.Owes.settled ((h.endPhase p).atBoundary ?_) _ _
    exact State.Owes.complete (((h.endPhase p).congr (sameOwed_raise ..)).congr (sameOwed_raise ..)) p _ _
  · exact h

theorem sameOwed_removePoll (x : Handle) (s : State) : SameOwed s (removePoll x s) := by
  rw [removePoll]
  split
  · exact sameOwed_setWriteBusy _ _ s
  · exact .refl s

theorem sameOwed_startPollWait (x : Handle) (s : State) : SameOwed s (startPollWait x s) := by
  rw [startPollWait]
  split
  · exact sameOwed_setWriteBusy _ _ s
  · exact .refl s

theorem State.Owes.acknowledgePoll (h : s.Owes m []) (p : Port) : (acknowledgePoll p s).Owes m [] := by
  rw [Machine.acknowledgePoll]
  split
  · next t n active _ =>
    refine State.Owes.settled ((h.endPhase p).atBoundary ?_) _ _
    have same := (sameOwed_endPhase p s).trans (sameOwed_removePoll t.handle (Machine.endPhase p s))
    have removed := h.congr same
    exact removed.congr (sameOwed_setEngine fun k => ((same.work p k).trans (tagOn?_of_active active)).symm)
  · exact h

theorem State.Owes.refusePoll (h : s.Owes m []) {p : Port} {t : Txn} (active : s.activeTxn? p = some t) :
    (refusePoll p t s).Owes m [] := by
  have same := sameOwed_startPollWait t.handle s
  have waits := h.congr same
  rw [Machine.refusePoll]
  split
  · have idle : ((startPollWait t.handle s).setEngine p
        { (startPollWait t.handle s).engine p with work := none }).Owes m [] :=
      waits.congr (sameOwed_setEngine fun k => ((same.work p k).trans (tagOn?_of_active active)).symm)
    rw [requeue]
    dsimp only
    split
    · refine (keptExam_owes m []).removeExamined _ ?_ idle
      have pool : ((startPollWait t.handle s).setEngine p
          { (startPollWait t.handle s).engine p with work := none }).pool = s.pool := same.pool
      rw [pool]
      exact mem_pool_of_activeTxn active
    · exact idle
  · exact waits.complete p _ _

theorem State.Owes.nackPoll (h : s.Owes m []) (p : Port) : (nackPoll p s).Owes m [] := by
  rw [Machine.nackPoll]
  split
  · next t n active _ =>
    refine State.Owes.settled ((h.endPhase p).atBoundary ((h.endPhase p).refusePoll ?_)) _ _
    rw [activeTxn?_endPhase]
    exact active
  · exact h

theorem State.Owes.finishTransfer (h : s.Owes m []) (p : Port) (d : List Byte) : (finishTransfer p d s).Owes m [] := by
  rw [Machine.finishTransfer]
  split
  · exact ((h.endPhase p).atBoundary ((h.endPhase p).complete p _ _)).settled _ _
  · exact h

/-- A transaction replaced by one that owes the same (R89, R91). -/
theorem State.Owes.setTxn {t u : Txn} (h : s.Owes m hand) (ht : t ∈ s.pool) (slot : u.slot = t.slot)
    (attributed : u.attributed = t.attributed) (same : ∀ k, u.tagOn? k = t.tagOn? k) : (s.setTxn u).Owes m hand := by
  have replaced : ∀ x ∈ s.pool, x.slot = u.slot → x = t := fun x hx eq =>
    List.inj_on_of_nodup_map h.slots hx ht (eq.trans slot)
  refine h.mapPool _ (fun x hx => ?_) (fun x hx => ?_) fun x hx k hk => ?_
  · split
    · next eq => exact eq.symm
    · rfl
  · split
    · next eq => rw [same, replaced x hx eq]
    · rfl
  · split at hk
    · next eq =>
      rw [if_pos eq, attributed]
      exact h.attributed t ht k (by rwa [← same])
    · next ne =>
      rw [if_neg ne]
      exact h.attributed x hx k hk

theorem State.Owes.nackAddress (h : s.Owes m []) (p : Port) : (nackAddress p s).Owes m [] := by
  rw [Machine.nackAddress]
  split
  · next t n active _ =>
    refine State.Owes.settled ((h.endPhase p).atBoundary ?_) _ _
    split
    · exact (h.endPhase p).setTxn (t := t) (by rw [endPhase_pool]; exact mem_pool_of_activeTxn active) rfl rfl
        fun _ => rfl
    · exact (h.endPhase p).complete p _ _
  · exact h

theorem State.Owes.nackData (h : s.Owes m []) (p : Port) : (nackData p s).Owes m [] := by
  rw [Machine.nackData]
  split
  · split
    · exact ((h.endPhase p).atBoundary ((h.endPhase p).complete p _ _)).settled _ _
    · exact h
  · exact h

theorem State.Owes.yieldBus (h : s.Owes m hand) (p : Port) : (yieldBus p s).Owes m hand := by
  have yielded : (s.setEngine p { s.engine p with phase := none, since := s.now }).Owes m hand :=
    h.congr (sameOwed_setEngine fun _ => rfl)
  exact yielded.congr (sameOwed_putLines ..)

theorem State.Owes.countLoss {t : Txn} (h : s.Owes m hand) (ht : t ∈ s.pool) : (countLoss t s).Owes m hand := by
  rw [Machine.countLoss]
  split
  · exact h.setTxn ht rfl rfl fun _ => rfl
  · exact h

theorem State.Owes.afterLoss (h : s.Owes m hand) (p : Port) (t : Txn) : (afterLoss p t s).Owes m hand := by
  rw [Machine.afterLoss]
  split
  · exact h
  · exact h.complete p _ _

theorem State.Owes.loseArbitration (h : s.Owes m []) (p : Port) : (loseArbitration p s).Owes m [] := by
  rw [Machine.loseArbitration]
  split
  · next t active =>
    have counted := ((keptUnits_owes m []).reportLoss p (h.yieldBus p)).countLoss (t := t) (by
      rw [reportLoss_pool, yieldBus_pool]
      exact mem_pool_of_activeTxn active)
    exact (counted.atBoundary (counted.afterLoss p t)).settled _ _
  · exact h

theorem State.Owes.completeStuck (h : s.Owes m hand) (p : Port) : (completeStuck p s).Owes m hand :=
  ((keptUnits_owes m hand).reportStuck p h).complete p _ _

/-- The end of a manual clear answers its CLEAR_BUS (R78, R96). -/
theorem State.Owes.endClear {p : Port} {kind : ClearKind} (h : s.Owes m []) (work :
    (s.engine p).work = some (.clearing kind))
    (free : Bool) : (endClear p kind free s).Owes m [] := by
  have none_ : (s.engine p).afterClear.tagOn? m = none := rfl
  unfold Machine.endClear answerClear
  split
  · next l tag =>
    refine State.Owes.answered (h.withEngine fun g => ?_) _ _
    rw [none_, tagOn?_clearing _ work]
    simp
  · next other =>
    refine h.withEngine fun g => ?_
    have nothing : (s.engine p).tagOn? m = none := by
      rw [Engine.tagOn?, work, Option.bind_some]
      unfold Work.tagOn?
      split
      · next l tag eq => exact absurd (Work.clearing.inj eq) (other l tag)
      · rfl
    rw [none_, nothing]

theorem State.Owes.holdClock (h : s.Owes m hand) (p : Port) : (holdClock p s).Owes m hand :=
  (h.congr (sameOwed_putLines ..)).upTo _

theorem State.Owes.reachStretchLimit (h : s.Owes m []) (p : Port) : (reachStretchLimit p s).Owes m [] := by
  rw [Machine.reachStretchLimit]
  split
  · next kind work => exact State.Owes.settled (State.Owes.endClear (h.holdClock p) (by exact work) _) _ _
  · exact ((h.holdClock p).completeStuck p).settled _ _
  · exact h

theorem State.Owes.reachSdaLimit (h : s.Owes m []) (p : Port) : (reachSdaLimit p s).Owes m [] := by
  rw [Machine.reachSdaLimit]
  split
  · exact (State.Owes.completeStuck (State.Owes.upTo (h.congr (sameOwed_putLines ..)) _) p).settled _ _
  · exact h

theorem State.Owes.finishClear (h : s.Owes m []) (p : Port) (r : ClearReading) : (finishClear p r s).Owes m [] := by
  rw [Machine.finishClear]
  split
  · next kind work =>
    have cleared : (clearedLines p r s).Owes m [] ∧ (clearedLines p r s).engine p = s.engine p := by
      rw [clearedLines]
      split
      · exact ⟨h.congr (sameOwed_releaseLines ..), rfl⟩
      · exact ⟨h.congr (sameOwed_putLines ..), rfl⟩
    obtain ⟨owes, engine⟩ := cleared
    exact State.Owes.settled (owes.endClear (by rw [engine]; exact work) _) _ _
  · exact h

theorem State.Owes.abortAtBoundary (h : s.Owes m []) (p : Port) (acked : Bool) :
    (abortAtBoundary p acked s).Owes m [] := by
  rw [Machine.abortAtBoundary]
  split
  · have opened : (setOpen p (abortedOpen (s.engine p) acked) s).Owes m [] := h.congr (sameOwed_setEngine fun _ => rfl)
    exact ((opened.endPhase p).complete p _ _).settled _ _
  · exact h

/-! ### Sessions, transactions and contexts -/

theorem State.Owes.expireSession (h : s.Owes m []) : (expireSession s).Owes m [] := by
  rw [Machine.expireSession]
  split
  · next l g e opened =>
    have dropped : (dropSession (s.upTo e)).Owes m [] := (h.upTo e).withSession fun x => by
      have same : (s.upTo e).session = .opened l g e := opened
      rw [same]
      rfl
    exact dropped.congr (sameOwed_raise ..)
  · exact h

theorem State.Owes.expireCommit (h : s.Owes m []) : (expireCommit s).Owes m [] := by
  rw [Machine.expireCommit]
  split
  · exact (h.upTo _).failCommit _
  · exact h

theorem State.Owes.expireTransaction (h : s.Owes m []) (n : Nat) : (expireTransaction n s).Owes m [] := by
  rw [Machine.expireTransaction]
  split
  · next t found =>
    split
    · exact h
    · exact State.Owes.settled ((keptExam_owes m []).removeExamined _ (mem_of_txn? (s := s.upTo t.deadline) found)
        (h.upTo _)) _ _
  · exact h

theorem State.Owes.expireReservation (h : s.Owes m []) (x : Handle) : (expireReservation x s).Owes m [] := by
  rw [Machine.expireReservation]
  split
  · next r _ =>
    have removed : (removeReservation x (s.upTo r.expiry)).Owes m [] :=
      (h.upTo r.expiry).congr (.of_eq rfl rfl rfl rfl rfl)
    exact State.Owes.settled ((keptExam_owes m []).examine _ (removed.congr (sameOwed_raise ..))) _ _
  · exact h

theorem State.Owes.expireContext (h : s.Owes m []) (c : Nat) : (expireContext c s).Owes m [] := by
  rw [Machine.expireContext]
  split
  · next x found =>
    have k := keptFan_owes m []
    have ended : (dropWaiting c ((s.upTo x.deadline).setContext c (x.endUnissued .deadlineExpired))).Owes m [] :=
      k.dropWaiting c (k.setContext (s := s.upTo x.deadline) found rfl rfl (h.upTo _))
    have removed := (keptExam_owes m []).removeAllExamined
      ((dropWaiting c ((s.upTo x.deadline).setContext c (x.endUnissued .deadlineExpired))).queuedMembers c)
      .deadlineExpired ended
    exact (k.closeIfDone c (k.setStopFlag c x.stopFlag removed)).settled [] s
  · exact h

/-! ### Timers and pins -/

theorem State.Owes.setWriteBusy (h : s.Owes m hand) (x : Handle) (w : Option WriteBusy) :
    (setWriteBusy x w s).Owes m hand :=
  h.congr (sameOwed_setWriteBusy ..)

theorem State.Owes.expireTimed (h : s.Owes m []) (x : Handle) : (expireTimed x s).Owes m [] := by
  rw [Machine.expireTimed]
  split
  · exact ((h.upTo _).setWriteBusy _ _).settled _ _
  · exact h

theorem State.Owes.endPollWait (h : s.Owes m []) (x : Handle) : (endPollWait x s).Owes m [] := by
  rw [Machine.endPollWait]
  split
  · exact ((h.upTo _).setWriteBusy _ _).settled _ _
  · exact h

theorem State.Owes.endPollWindow (h : s.Owes m []) (x : Handle) : (endPollWindow x s).Owes m [] := by
  rw [Machine.endPollWindow]
  split
  · exact ((h.upTo _).setWriteBusy _ _).settled _ _
  · exact h

theorem State.Owes.expireDecay (h : s.Owes m []) (p : Port) : (expireDecay p s).Owes m [] := by
  have k := keptUnits_owes m []
  rw [Machine.expireDecay]
  split
  · refine State.Owes.settled ?_ _ _
    rw [decayStep]
    split
    · exact k.leaveCause p _ (k.setUnit p _ (h.upTo _))
    · exact k.setUnit p _ (h.upTo _)
  · exact h

theorem State.Owes.expireFreeLine (h : s.Owes m []) (p : Port) : (expireFreeLine p s).Owes m [] := by
  have k := keptUnits_owes m []
  rw [Machine.expireFreeLine]
  split
  · exact State.Owes.settled (k.leaveCause p _ (k.setUnit p _ (h.upTo _))) _ _
  · exact h

theorem State.Owes.changeInhibit (h : s.Owes m []) (p : Port) (high : Bool) : (changeInhibit p high s).Owes m [] := by
  rw [Machine.changeInhibit]
  split
  · exact h
  · exact (keptUnits_owes m []).setUnit p _ h

theorem State.Owes.expireFilter (h : s.Owes m []) (p : Port) : (expireFilter p s).Owes m [] := by
  rw [Machine.expireFilter]
  split
  · exact ((h.upTo _).filterComplete p).settled _ _
  · exact h

theorem State.Owes.expireHoldoff (h : s.Owes m []) (p : Port) : (expireHoldoff p s).Owes m [] := by
  rw [Machine.expireHoldoff]
  split
  · exact State.Owes.settled ((keptUnits_owes m []).clearPort p (h.upTo _)) _ _
  · exact h

/-! ### Exchanges -/

/-- A request of any kind but the resets discharges the tag it is taken with; so does a kind that names none (R171). -/
theorem discharges_takeKind (m : Link) {kind : Byte} (hk : isResetKind kind = false) (l : Link) (tag : Tag)
    (ps : List Byte) : Discharges m l tag (takeKind kind l tag ps) := by
  suffices taken : ∀ take, takeKind kind l tag ps = take → Discharges m l tag take from taken _ rfl
  intro take h
  unfold takeKind at h
  split at h
  all_goals subst h
  · exact discharges_queryEndpoint m l tag ps
  · exact discharges_lookup m l tag ps
  · exact discharges_listEndpoints m l tag ps
  · exact discharges_querySegment m l tag ps
  · exact discharges_queryGroup m l tag ps
  · exact discharges_queryDirectory m l tag ps
  · exact discharges_openSession m l tag ps
  · exact discharges_discardSession m l tag ps
  · exact discharges_addEndpoint m l tag ps
  · exact discharges_modifyEndpoint m l tag ps
  · exact discharges_retireEndpoint m l tag ps
  · exact discharges_addSegment m l tag ps
  · exact discharges_retireSegment m l tag ps
  · exact discharges_setGroup m l tag ps
  · exact discharges_commit m l tag ps
  · exact discharges_abortCommit m l tag ps
  · exact discharges_transact m l tag ps
  · exact discharges_release m l tag ps
  · exact discharges_quarantine m l tag ps
  · exact discharges_clearScore m l tag ps
  · exact discharges_reserve m l tag ps
  · exact discharges_unreserve m l tag ps
  · exact discharges_groupTransact m l tag ps
  · exact discharges_configurePort m l tag ps
  · exact discharges_queryPort m l tag ps
  · exact discharges_clearBus m l tag ps
  · exact discharges_resumePort m l tag ps
  · exact discharges_identify m l tag ps
  · exact discharges_configureLink m l tag ps
  · exact discharges_configureDevice m l tag ps
  · exact discharges_getAttention m l tag ps
  · next num =>
    rw [BitVec.eq_of_toNat_eq (y := 0x20#8) num] at hk
    exact absurd hk (by decide)
  · next num =>
    rw [BitVec.eq_of_toNat_eq (y := 0x21#8) num] at hk
    exact absurd hk (by decide)
  · exact fun _ hs => hs.answered _ _

theorem kind_of_isResetKind {kind : Byte} (h : isResetKind kind = true) : kind = 0x20#8 ∨ kind = 0x21#8 := by
  rw [isResetKind, Bool.or_eq_true, decide_eq_true_eq, decide_eq_true_eq] at h
  exact h

theorem owes_exchangePut (hs : ∀ k, s.Owes k []) (l : Link) (bytes : List Byte) (m : Link) :
    (exchangePut l bytes s).Owes m [] := by
  have clocked : ∀ k, (clockPut l bytes.length s).Owes k [] := fun k => (hs k).clockPut l _
  rw [exchangePut]
  split
  · exact hs m
  · rw [takePut]
    split
    · exact (clocked m).dropFrame l
    · next kind tag ps _ =>
      split
      · next reset =>
        rcases kind_of_isResetKind reset with rfl | rfl
        · exact owes_takeLinkReset clocked l m tag
        · exact owes_takeSoftReset l m tag _
      · next other =>
        rw [takeFrame]
        split
        · exact (clocked m).dropFrame l
        · refine discharges_takeKind m (Bool.eq_false_iff.mpr other) l tag ps _ ?_
          have held : (holdTag l tag (clockPut l bytes.length s)).Owes m (tagFor m l tag ++ []) :=
            (clocked m).withTag rfl
          rwa [List.append_nil] at held

theorem get_outstanding (i : LinkState) (part : GetPart) : (i.get part).outstanding = i.outstanding := by
  have finish : ∀ (j : LinkState) n, (j.finishGet n).outstanding = j.outstanding := fun j n => by
    rw [LinkState.finishGet]
    split <;> rfl
  cases part with
  | start => rfl
  | finish n => exact finish i n
  | whole n => exact finish i.startGet n

theorem State.Owes.exchangeGet (h : s.Owes m []) (l : Link) (part : GetPart) : (exchangeGet l part s).Owes m [] := by
  rw [Machine.exchangeGet]
  split
  · exact h
  · exact h.congr (sameOwed_setLink (get_outstanding _ part))

theorem State.Owes.badDirection (h : s.Owes m []) (d : Byte) : (badDirection d s).Owes m [] := by
  rw [Machine.badDirection]
  split
  · exact h
  · exact h.dropFrame .a

theorem owes_acceptReset {l : Link} {ps : List Byte} {take : State → State} (hs : s.Owes m [])
    (taken : (take (clockPut l (frameLength ps) s)).Owes m []) : (acceptReset l ps take s).Owes m [] :=
  acceptReset_cases hs ((hs.clockPut l _).dropFrame l) fun _ => taken

/-! ### Steps -/

/-- Every command keeps what is owed on both links what is outstanding. -/
theorem owes_exec (c : Instr) (hs : ∀ k, s.Owes k []) :
    ∃ t, exec c s = .next t ∧ ∀ m, t.Owes m [] := by
  cases c with
  | put l bytes => exact ⟨_, rfl, owes_exchangePut hs l bytes⟩
  | get l part => exact ⟨_, rfl, fun m => (hs m).exchangeGet l part⟩
  | badDirectionWindow d => exact ⟨_, rfl, fun m => (hs m).badDirection d⟩
  | addressOnlyWrite _ => exact ⟨_, rfl, hs⟩
  | windowWithNoWholeByte => exact ⟨_, rfl, hs⟩
  | queryEndpoint l tag ps => exact ⟨_, rfl, fun m => owes_acceptRequest (discharges_queryEndpoint m l tag ps) (hs m)⟩
  | lookup l tag ps => exact ⟨_, rfl, fun m => owes_acceptRequest (discharges_lookup m l tag ps) (hs m)⟩
  | listEndpoints l tag ps => exact ⟨_, rfl, fun m => owes_acceptRequest (discharges_listEndpoints m l tag ps) (hs m)⟩
  | querySegment l tag ps => exact ⟨_, rfl, fun m => owes_acceptRequest (discharges_querySegment m l tag ps) (hs m)⟩
  | queryGroup l tag ps => exact ⟨_, rfl, fun m => owes_acceptRequest (discharges_queryGroup m l tag ps) (hs m)⟩
  | queryDirectory l tag ps => exact ⟨_, rfl, fun m => owes_acceptRequest (discharges_queryDirectory m l tag ps) (hs m)⟩
  | openSession l tag ps => exact ⟨_, rfl, fun m => owes_acceptRequest (discharges_openSession m l tag ps) (hs m)⟩
  | discardSession l tag ps => exact ⟨_, rfl, fun m => owes_acceptRequest (discharges_discardSession m l tag ps) (hs m)⟩
  | addEndpoint l tag ps => exact ⟨_, rfl, fun m => owes_acceptRequest (discharges_addEndpoint m l tag ps) (hs m)⟩
  | modifyEndpoint l tag ps => exact ⟨_, rfl, fun m => owes_acceptRequest (discharges_modifyEndpoint m l tag ps) (hs m)⟩
  | retireEndpoint l tag ps => exact ⟨_, rfl, fun m => owes_acceptRequest (discharges_retireEndpoint m l tag ps) (hs m)⟩
  | addSegment l tag ps => exact ⟨_, rfl, fun m => owes_acceptRequest (discharges_addSegment m l tag ps) (hs m)⟩
  | retireSegment l tag ps => exact ⟨_, rfl, fun m => owes_acceptRequest (discharges_retireSegment m l tag ps) (hs m)⟩
  | setGroup l tag ps => exact ⟨_, rfl, fun m => owes_acceptRequest (discharges_setGroup m l tag ps) (hs m)⟩
  | commit l tag ps => exact ⟨_, rfl, fun m => owes_acceptRequest (discharges_commit m l tag ps) (hs m)⟩
  | abortCommit l tag ps => exact ⟨_, rfl, fun m => owes_acceptRequest (discharges_abortCommit m l tag ps) (hs m)⟩
  | sessionExpired => exact ⟨_, rfl, fun m => (hs m).expireSession⟩
  | commitDeadline => exact ⟨_, rfl, fun m => (hs m).expireCommit⟩
  | transact l tag ps => exact ⟨_, rfl, fun m => owes_acceptRequest (discharges_transact m l tag ps) (hs m)⟩
  | release l tag ps => exact ⟨_, rfl, fun m => owes_acceptRequest (discharges_release m l tag ps) (hs m)⟩
  | quarantine l tag ps => exact ⟨_, rfl, fun m => owes_acceptRequest (discharges_quarantine m l tag ps) (hs m)⟩
  | clearScore l tag ps => exact ⟨_, rfl, fun m => owes_acceptRequest (discharges_clearScore m l tag ps) (hs m)⟩
  | reserve l tag ps => exact ⟨_, rfl, fun m => owes_acceptRequest (discharges_reserve m l tag ps) (hs m)⟩
  | unreserve l tag ps => exact ⟨_, rfl, fun m => owes_acceptRequest (discharges_unreserve m l tag ps) (hs m)⟩
  | reservationExpired h => exact ⟨_, rfl, fun m => (hs m).expireReservation h⟩
  | groupTransact l tag ps => exact ⟨_, rfl, fun m => owes_acceptRequest (discharges_groupTransact m l tag ps) (hs m)⟩
  | contextDeadline c => exact ⟨_, rfl, fun m => (hs m).expireContext c⟩
  | configurePort l tag ps => exact ⟨_, rfl, fun m => owes_acceptRequest (discharges_configurePort m l tag ps) (hs m)⟩
  | queryPort l tag ps => exact ⟨_, rfl, fun m => owes_acceptRequest (discharges_queryPort m l tag ps) (hs m)⟩
  | clearBus l tag ps => exact ⟨_, rfl, fun m => owes_acceptRequest (discharges_clearBus m l tag ps) (hs m)⟩
  | resumePort l tag ps => exact ⟨_, rfl, fun m => owes_acceptRequest (discharges_resumePort m l tag ps) (hs m)⟩
  | identify l tag ps => exact ⟨_, rfl, fun m => owes_acceptRequest (discharges_identify m l tag ps) (hs m)⟩
  | configureLink l tag ps => exact ⟨_, rfl, fun m => owes_acceptRequest (discharges_configureLink m l tag ps) (hs m)⟩
  | configureDevice l tag ps => exact ⟨_, rfl, fun m => owes_acceptRequest (discharges_configureDevice m l tag ps)
      (hs m)⟩
  | getAttention l tag ps => exact ⟨_, rfl, fun m => owes_acceptRequest (discharges_getAttention m l tag ps) (hs m)⟩
  | linkReset l tag ps =>
    exact ⟨_, rfl, fun m => owes_acceptReset (hs m) (owes_takeLinkReset (fun k => (hs k).clockPut l _) l m tag)⟩
  | softReset l tag ps => exact ⟨_, rfl, fun m => owes_acceptReset (hs m) (owes_takeSoftReset l m tag _)⟩
  | rstnAssert => exact ⟨_, rfl, fun m => owes_assertRstn m s⟩
  | rstnRelease straps => exact ⟨_, rfl, fun m => owes_powerOn m _ s⟩
  | phaseStart p => exact ⟨_, rfl, fun m => (hs m).startPhase p⟩
  | selectionWriteAck p => exact ⟨_, rfl, fun m => (hs m).acknowledgeWrite p⟩
  | segmentFault p => exact ⟨_, rfl, fun m => (hs m).failSelection p⟩
  | recoveryPollAck p => exact ⟨_, rfl, fun m => (hs m).acknowledgePoll p⟩
  | recoveryPollNack p => exact ⟨_, rfl, fun m => (hs m).nackPoll p⟩
  | transferComplete p d => exact ⟨_, rfl, fun m => (hs m).finishTransfer p d⟩
  | addressNack p => exact ⟨_, rfl, fun m => (hs m).nackAddress p⟩
  | dataNack p => exact ⟨_, rfl, fun m => (hs m).nackData p⟩
  | arbitrationLoss p => exact ⟨_, rfl, fun m => (hs m).loseArbitration p⟩
  | stretchLimit p => exact ⟨_, rfl, fun m => (hs m).reachStretchLimit p⟩
  | sdaLowLimit p => exact ⟨_, rfl, fun m => (hs m).reachSdaLimit p⟩
  | busClearEnd p r => exact ⟨_, rfl, fun m => (hs m).finishClear p r⟩
  | transactionDeadline n => exact ⟨_, rfl, fun m => (hs m).expireTransaction n⟩
  | timedRecoveryExpiry h => exact ⟨_, rfl, fun m => (hs m).expireTimed h⟩
  | pollWaitEnd h => exact ⟨_, rfl, fun m => (hs m).endPollWait h⟩
  | pollWindowEnd h => exact ⟨_, rfl, fun m => (hs m).endPollWindow h⟩
  | decayExpiry p => exact ⟨_, rfl, fun m => (hs m).expireDecay p⟩
  | freeLineExpiry p => exact ⟨_, rfl, fun m => (hs m).expireFreeLine p⟩
  | portLinesChange p scl sda => exact ⟨_, rfl, fun m => (hs m).congr (sameOwed_putLines ..)⟩
  | inhibitInputChange p high => exact ⟨_, rfl, fun m => (hs m).changeInhibit p high⟩
  | inhibitFilterExpiry p => exact ⟨_, rfl, fun m => (hs m).expireFilter p⟩
  | holdoffExpiry p => exact ⟨_, rfl, fun m => (hs m).expireHoldoff p⟩
  | inhibitAbort p acked => exact ⟨_, rfl, fun m => (hs m).abortAtBoundary p acked⟩

/-- Settles O54: what a command takes in hand it answers, or leaves to work in the part, which answers it once. -/
theorem outstandingTagsStayOwed : Obligations.OutstandingTagsStayOwed := by
  unfold Obligations.OutstandingTagsStayOwed
  intro s t owed h
  obtain ⟨distinct, owes⟩ := tagsOwed_iff.mp owed
  refine tagsOwed_iff.mpr ⟨(step_keeps h).tags distinct, ?_⟩
  rw [step] at h
  split at h
  · rw [← Host.Outcome.next.inj h]
    exact fun m => (owes m).congr (.of_eq rfl rfl rfl rfl rfl)
  · next c rest _ =>
    have taken : ∀ k, ({ s with pending := rest } : State).Owes k [] := fun k =>
      (owes k).congr (.of_eq rfl rfl rfl rfl rfl)
    obtain ⟨u, hu, kept⟩ := owes_exec c taken
    rw [← Host.Outcome.next.inj (hu.symm.trans h)]
    exact kept

end

end Sys2Proof.Machine
end

section
/-! SUPPORT. The front of the queue, the reset pin, the attention set; the invariants hold after reset. -/
namespace Sys2Proof.Machine

/-! ### The front of the queue -/

/-- Settles O1: by the equation of `step` at a queue with a front. -/
theorem stepRunsFrontCommand : Obligations.StepRunsFrontCommand := by
  intro c rest s h
  rw [step, h]

/-- Settles O2: by the equation of `step` at the empty queue. -/
theorem emptyQueueStepIsOneTick : Obligations.EmptyQueueStepIsOneTick := by
  intro s h
  rw [step]
  split
  · rfl
  · next front => cases h.symm.trans front

/-! ### The reset pin -/

theorem unit_powerOn (a : BusAddress) (p : Port) (s : State) :
    (s.powerOn a).unit p = Containment.reset (s.unit p).inhHigh s.now := by
  cases p <;> rfl

theorem engine_powerOn (a : BusAddress) (p : Port) (s : State) : (s.powerOn a).engine p = Engine.reset := by
  cases p <;> rfl

theorem link_powerOn (a : BusAddress) (l : Link) (s : State) : (s.powerOn a).link l = LinkState.reset := by
  cases l <;> rfl

theorem alertLow_eq (s : State) (l : Link) : s.alertLow l = (!s.rstnLow && (s.link l).alert) := rfl

theorem engine_assertRstn (p : Port) (s : State) : (assertRstn s).engine p = Engine.reset := by
  cases p <;> rfl

theorem link_assertRstn (l : Link) (s : State) : (assertRstn s).link l = LinkState.reset.held := by
  cases l <;> rfl

/-- Settles O3: every field of the state after the release is that of the reset state, but for those named. -/
theorem powerOnValues : Obligations.PowerOnValues := by
  refine ⟨fun straps s => ⟨releaseRstn straps s, rfl, rfl, rfl, rfl, rfl, rfl, fun _ => rfl, rfl, fun _ => rfl, rfl,
      rfl,
    rfl, rfl, rfl, rfl, fun p => ?_, fun p => ?_, fun l => ?_, fun l => ?_, rfl, rfl⟩, rfl⟩
  · exact engine_powerOn _ p s
  · exact unit_powerOn _ p s
  · exact link_powerOn _ l s
  · have alert : LinkState.reset.alert = true := by decide
    rw [alertLow_eq, releaseRstn, link_powerOn, alert]
    rfl

/-- A request that is no reset is taken through the acceptance of its frame, and answered BAD_PARAMETER where its block
does not read (R169, R187). -/
theorem exec_request {c : Instr} {l : Link} {tag : Tag} {ps : List Byte} (h : c.request? = some (l, tag, ps))
    (plain : c.isReset = false) :
    ∃ take, (c.blockReads = false → take = answer l tag .badParameter) ∧
      ∀ s, exec c s = .next (acceptRequest l tag ps take s) := by
  have unread {α : Type} {block : Option α} {take : α → State → State} (bad : block.isSome = false) :
      withBlock l tag block take = answer l tag .badParameter := by
    rw [Option.isSome_eq_false_iff, Option.isNone_iff_eq_none] at bad
    rw [bad]
    rfl
  cases c <;> cases h
  case linkReset => cases plain
  case softReset => cases plain
  all_goals exact ⟨_, fun bad => unread bad, fun s => rfl⟩

/-- A reset request is taken through the acceptance of its own (R169). -/
theorem exec_resetRequest {c : Instr} {l : Link} {tag : Tag} {ps : List Byte} (h : c.request? = some (l, tag, ps))
    (reset : c.isReset = true) : ∃ take, ∀ s, exec c s = .next (acceptReset l ps take s) := by
  cases c <;> cases reset
  case linkReset => cases h; exact ⟨_, fun s => rfl⟩
  case softReset => cases h; exact ⟨_, fun s => rfl⟩

/-- While RSTN is low no request is taken (R182). -/
theorem exec_request_held {c : Instr} {s : State} (h : c.request?.isSome = true) (low : s.rstnLow = true) :
    exec c s = .next s := by
  obtain ⟨⟨l, tag, ps⟩, request⟩ := Option.isSome_iff_exists.mp h
  cases reset : c.isReset
  · obtain ⟨take, _, run⟩ := exec_request request reset
    rw [run, acceptRequest_held l tag ps take s low]
  · obtain ⟨take, run⟩ := exec_resetRequest request reset
    rw [run, acceptReset_held l ps take s low]

/-- Settles O4: an asserted RSTN leaves the values of power-on without attention, and while it is low each exchange
finds the pin low first. -/
theorem rstnAssertHoldsThePart : Obligations.RstnAssertHoldsThePart := by
  refine ⟨fun s => ⟨assertRstn s, rfl, rfl, rfl, rfl, rfl, rfl, rfl, rfl, fun p => ?_, fun l => ?_, fun _ => rfl,
      rfl, rfl⟩,
    fun s low => ⟨fun l bytes => ?_, fun l part => ?_, fun d => ?_, fun c request => exec_request_held request low⟩⟩
  · rw [engine_assertRstn]
    exact ⟨rfl, rfl⟩
  · rw [link_assertRstn]
    exact ⟨rfl, rfl, rfl, rfl, rfl⟩
  · exact congrArg Host.Outcome.next (by simp [exchangePut, low])
  · exact congrArg Host.Outcome.next (by simp [exchangeGet, low])
  · exact congrArg Host.Outcome.next (by simp [badDirection, low])

/-! ### The attention set -/

theorem mem_attentionAlert (i : LinkState) :
    i.attentionAlert = true ↔ ∃ n e, (n, e) ∈ i.attention ∧ i.config.alertMask.getLsbD n = true := by
  simp [LinkState.attentionAlert]

/-- Settles O52: a raise puts one entry into the table of its link. -/
theorem attentionEntriesAndAlert : Obligations.AttentionEntriesAndAlert := by
  refine ⟨fun l k x s => ⟨raise l k x s, rfl, ?_, fun n other => ?_, ?_⟩, fun l s => ?_⟩
  · rw [link_raise, if_pos rfl]
    cases h : (s.link l).attention.find k.num <;> simp [AttentionEntry.raised, Config.countMax]
  · rw [link_raise, if_pos rfl]
    exact Table.find_put_ne _ _ _ _ other
  · rw [link_raise, if_pos rfl]
    rfl
  · have queue : (!(s.link l).queue.isEmpty) = true ↔ (s.link l).queue ≠ [] := by simp
    rw [alertLow_eq, Bool.and_eq_true, Bool.not_eq_true', LinkState.alert, Bool.or_eq_true, Bool.and_eq_true,
      mem_attentionAlert, queue]

/-! ### Reset -/

theorem tablesSorted_reset : State.reset.tablesSorted :=
  ⟨rfl, rfl, rfl, rfl, rfl, fun _ h => absurd h (by simp [State.reset, Session.staging?]), fun l => by cases l <;> rfl⟩

/-- Settles O59: after reset nothing is in use, and the tables but the attention sets are empty. -/
theorem invariantsHoldAtReset : Obligations.InvariantsHoldAtReset := by
  have distinct : State.reset.tagsDistinct := fun l => by cases l <;> exact List.nodup_nil
  refine ⟨distinct, tagsOwed_iff.mpr ⟨distinct, fun m => ?_⟩, fun p => ?_, ⟨List.nodup_nil, ?_, fun l => ?_⟩,
    tablesSorted_reset, ?_⟩
  · exact owes_empty rfl rfl rfl (fun p => by cases p <;> rfl) (by cases m <;> rfl)
  · cases p <;> (unfold Containment.consistent; decide)
  · exact fun t h => absurd h List.not_mem_nil
  · exact Nat.zero_le _
  · exact (lawful_iff tablesSorted_reset).mp (lawful_empty tablesSorted_reset rfl rfl rfl rfl)

end Sys2Proof.Machine
end

section
/-! SUPPORT. Frames (R169, R172, R183), and the requests that their exchanges carry. -/
namespace Sys2Proof.Machine

/-! ### Frames -/

theorem crc8_append_singleton (bytes : List Byte) (b : Byte) : crc8 (bytes ++ [b]) = crcStep (crc8 bytes) b := by
  rw [crc8, List.foldl_append]
  rfl

/-- The register that takes in its own value is 0 (R183). -/
theorem crcStep_self (r : Byte) : crcStep r r = 0 := by
  rw [crcStep, BitVec.xor_self]
  decide

theorem crc8_append_crc8 (bytes : List Byte) : crc8 (bytes ++ [crc8 bytes]) = 0 := by
  rw [crc8_append_singleton, crcStep_self]

theorem length_requestFrame (kind : Byte) (tag : Tag) (ps : List Byte) :
    (requestFrame kind tag ps).length = ps.length + 4 := by
  simp [requestFrame, requestBody]

theorem length_responseFrame (r : Response) : (responseFrame r).length = r.payload.length + 5 := by
  simp [responseFrame, wordOf]

/-- A frame reads back (R183). -/
theorem parseFrame_requestFrame (kind : Byte) (tag : Tag) {ps : List Byte} (h : ps.length ≤ 64) :
    parseFrame (requestFrame kind tag ps) = some (kind, tag, ps) := by
  have tagBound : (tag.setWidth 8).toNat < 16 := by bv_omega
  have tagBack : (tag.setWidth 8).setWidth 4 = tag := by bv_omega
  have count : (byteOf ps.length).toNat = ps.length := by rw [byteOf_toNat]; omega
  have shape : requestFrame kind tag ps =
      kind :: tag.setWidth 8 :: byteOf ps.length ::
        (ps ++ [crc8 (kind :: tag.setWidth 8 :: byteOf ps.length :: ps)]) := rfl
  have fits (b : Byte) : (ps ++ [b]).length = ps.length + 1 := by simp
  rw [shape, parseFrame, count, if_pos ⟨tagBound, h, fits _⟩, List.drop_left, List.take_left, if_pos rfl, tagBack]

/-- Only frames read (R169, R183). -/
theorem requestFrame_of_parseFrame {bytes : List Byte} {kind : Byte} {tag : Tag} {ps : List Byte}
    (h : parseFrame bytes = some (kind, tag, ps)) : bytes = requestFrame kind tag ps ∧ ps.length ≤ 64 := by
  unfold parseFrame at h
  split at h
  · next k g n rest =>
    split at h
    · next bounds =>
      obtain ⟨tagBound, fits, length⟩ := bounds
      split at h
      · next crc =>
        cases h
        have taken : (rest.take n.toNat).length = n.toNat := by
          rw [List.length_take, length]
          omega
        have tagBack : (g.setWidth 4).setWidth 8 = g := by bv_omega
        have countBack : byteOf (rest.take n.toNat).length = n := by
          rw [taken, byteOf, BitVec.ofNat_toNat, BitVec.setWidth_eq]
        have body : requestBody kind (g.setWidth 4) (rest.take n.toNat) = kind :: g :: n :: rest.take n.toNat := by
          rw [requestBody, tagBack, countBack]
        refine ⟨?_, taken.trans_le fits⟩
        rw [requestFrame, body, ← crc]
        simp
      · cases h
    · cases h
  · cases h

/-- Settles O7: a frame ends in the CRC of its body. -/
theorem frameRoundTrip : Obligations.FrameRoundTrip :=
  ⟨fun kind tag ps h => ⟨parseFrame_requestFrame kind tag h, length_requestFrame kind tag ps, crc8_append_crc8 _⟩,
    fun _ _ _ _ h => requestFrame_of_parseFrame h,
    fun r => ⟨length_responseFrame r, crc8_append_crc8 _⟩, by decide⟩

/-! ### Requests -/

/-- A request is what its kind byte names, taken through the acceptance of a frame, or of a reset (R169, 11.5). -/
theorem exec_requestOf {kind : Byte} {l : Link} {tag : Tag} {ps : List Byte} {c : Instr}
    (h : requestOf kind l tag ps = some c) (s : State) :
    exec c s = .next (if isResetKind kind then acceptReset l ps (takeKind kind l tag ps) s
      else acceptRequest l tag ps (takeKind kind l tag ps) s) := by
  unfold requestOf at h
  split at h
  case h_34 => cases h
  all_goals
    next number =>
    have byte := congrArg (BitVec.ofNat 8) number
    rw [BitVec.ofNat_toNat, BitVec.setWidth_eq] at byte
    subst byte
    cases h
    rfl

/-- A kind byte that names no request is answered BAD_PARAMETER (R171). -/
theorem takeKind_of_requestOf_eq_none {kind : Byte} {l : Link} {tag : Tag} {ps : List Byte}
    (h : requestOf kind l tag ps = none) :
    isResetKind kind = false ∧ takeKind kind l tag ps = answer l tag .badParameter := by
  unfold requestOf at h
  split at h
  case h_34 =>
    constructor
    · rw [isResetKind, Bool.or_eq_false_iff, decide_eq_false_iff_not, decide_eq_false_iff_not]
      constructor <;> (rintro rfl; contradiction)
    · unfold takeKind
      split <;> first | contradiction | rfl
  all_goals cases h

/-- The PUT of a frame is the acceptance of its request (R169). -/
theorem exchangePut_requestFrame (l : Link) (kind : Byte) (tag : Tag) {ps : List Byte} (h : ps.length ≤ 64)
    (s : State) : exchangePut l (requestFrame kind tag ps) s =
      if isResetKind kind then acceptReset l ps (takeKind kind l tag ps) s
      else acceptRequest l tag ps (takeKind kind l tag ps) s := by
  have carries : carriesNothing l (requestFrame kind tag ps) = false := by
    simp [carriesNothing, requestFrame, requestBody]
  have fits : ¬ Config.parameterBytes < ps.length := Nat.not_lt.mpr h
  cases low : s.rstnLow
  · simp only [exchangePut, low, carries, takePut, parseFrame_requestFrame kind tag h, length_requestFrame, acceptReset,
      acceptRequest, frameLength, fits, Bool.or_self, Bool.false_eq_true, if_false]
  · rw [exchangePut, low, acceptReset_held _ _ _ _ low, acceptRequest_held _ _ _ _ _ low, ite_self]
    rfl

/-- Settles O5: the PUT of a frame is the acceptance of its request, and so is the request. -/
theorem putOfGoodFrameIsItsRequest : Obligations.PutOfGoodFrameIsItsRequest := by
  refine ⟨fun l kind tag ps c s request fits => ⟨_, rfl, ?_⟩, fun l kind tag ps s nothing ha => ?_⟩
  · rw [exec_requestOf request s, exchangePut_requestFrame l kind tag fits s]
  · obtain ⟨plain, take⟩ := takeKind_of_requestOf_eq_none nothing
    have put := exchangePut_requestFrame l kind tag ha.2.2 s
    rw [plain, take, acceptRequest_accepts _ ha, answer_accepted _ ha] at put
    exact congrArg Host.Outcome.next put

/-- Settles O10: a block that does not read is answered as the parameter check answers it. -/
theorem malformedBlockIsBadParameter : Obligations.MalformedBlockIsBadParameter := by
  intro c l tag ps s request unread ha
  have plain : c.isReset = false := by
    cases c <;> first | rfl | cases unread
  obtain ⟨take, bad, run⟩ := exec_request request plain
  rw [run, acceptRequest_accepts _ ha, bad unread, answer_accepted _ ha]

/-! ### Frames that are dropped, and exchanges that carry nothing -/

theorem dropFrame_sent (l : Link) (out : List Byte) (s : State) :
    dropFrame l (s.setLink l { s.link l with sent := out }) = s.dropped l out := by
  simp only [dropFrame, raise, State.link_setLink_self, State.setLink_setLink]
  rfl

theorem dropFrame_clockPut (l : Link) (n : Nat) (s : State) :
    dropFrame l (clockPut l n s) = s.dropped l (match l with | .a => List.replicate (n + 1) 0xFF | .b => []) :=
  dropFrame_sent l _ s

/-- A request whose tag is in use is dropped (R169). -/
theorem acceptRequest_tagInUse {l : Link} {tag : Tag} {ps : List Byte} {s : State} (take : State → State)
    (low : s.rstnLow = false) (fits : ps.length ≤ 64) (used : (s.link l).tagInUse tag = true) :
    acceptRequest l tag ps take s = s.dropped l (putOut l ps) := by
  have fits' : ¬ Config.parameterBytes < ps.length := Nat.not_lt.mpr fits
  have used' : ((s.setLink l { s.link l with sent := putOut l ps }).link l).tagInUse tag = true := by
    rw [State.link_setLink_self]
    exact used
  simp only [acceptRequest, low, Bool.false_eq_true, if_false, clockPut_eq, if_neg fits', takeFrame, used', if_true]
  exact dropFrame_sent l _ s

/-- Settles O6: bytes that do not read are no frame, and a drop replaces the link interface alone. -/
theorem badFramesAndEmptyWindows : Obligations.BadFramesAndEmptyWindows := by
  refine ⟨⟨fun l bytes s low carries noFrame => ?_, fun c l tag ps s request plain low fits used => ?_, fun s => ?_⟩,
    fun _ _ => rfl, fun _ => rfl, fun d s low put get => ?_⟩
  · have unread : parseFrame bytes = none := by
      refine Option.eq_none_iff_forall_ne_some.mpr fun ⟨kind, tag, ps⟩ read => noFrame ⟨kind, tag, ps, ?_⟩
      obtain ⟨frame, fits⟩ := requestFrame_of_parseFrame read
      exact ⟨fits, frame⟩
    have carries' : carriesNothing l bytes = false := by
      rcases carries with rfl | bytes
      · rfl
      · simp [carriesNothing, bytes]
    refine congrArg Host.Outcome.next ?_
    rw [exchangePut, low, carries', takePut, unread]
    exact dropFrame_clockPut l _ s
  · obtain ⟨take, _, run⟩ := exec_request request plain
    rw [run, acceptRequest_tagInUse take low fits used]
  · refine congrArg Host.Outcome.next ?_
    simp [exchangePut, carriesNothing]
  · refine congrArg Host.Outcome.next ?_
    have put' : d ≠ Config.putByte := put
    have get' : d ≠ Config.getByte := get
    simp only [badDirection, low, put', get', decide_false, Bool.or_self, Bool.false_eq_true, if_false]
    exact dropFrame_sent .a _ s

/-! ### GET -/

theorem exchangeGet_of_high (l : Link) (part : GetPart) {s : State} (low : s.rstnLow = false) :
    exchangeGet l part s = s.setLink l ((s.link l).get part) := by
  simp [exchangeGet, low]

theorem length_emptyFrame : emptyFrame.length = 5 := by decide

theorem get_whole_empty {i : LinkState} (n : Nat) (h : i.queue = []) :
    i.get (.whole n) = { i with getting := none, sent := emptyFrame.take n ++ List.replicate (n - 5) 0xFF } := by
  simp [LinkState.get, LinkState.startGet, LinkState.finishGet, LinkState.copy, h, clockedOut, length_emptyFrame]

theorem get_whole_sent {i : LinkState} {r : Response} {rest : List Response} {n : Nat} (h : i.queue = r :: rest)
    (long : r.payload.length + 5 ≤ n) :
    i.get (.whole n) = { i with
      queue := rest, getting := none
      sent := responseFrame r ++ List.replicate (n - (r.payload.length + 5)) 0xFF } := by
  have all : (responseFrame r).take n = responseFrame r := List.take_of_length_le
      (by rw [length_responseFrame]; exact long)
  simp [LinkState.get, LinkState.startGet, LinkState.finishGet, LinkState.copy, h, clockedOut, length_responseFrame,
    long, all]

theorem get_whole_short {i : LinkState} {r : Response} {rest : List Response} {n : Nat} (h : i.queue = r :: rest)
    (short : n < r.payload.length + 5) :
    i.get (.whole n) = { i with getting := none, sent := (responseFrame r).take n } := by
  have nothing : n - (r.payload.length + 5) = 0 := by omega
  simp [LinkState.get, LinkState.startGet, LinkState.finishGet, LinkState.copy, h, clockedOut, length_responseFrame,
    Nat.not_le.mpr short, nothing]

theorem get_finish {i : LinkState} {g : GetInProgress} (n : Nat) (h : i.getting = some g) :
    i.get (.finish n) = { i with
      queue := if g.fromHead = true ∧ g.copy.length ≤ n then i.queue.tail else i.queue
      getting := none, sent := clockedOut g.copy n } := by
  simp only [LinkState.get, LinkState.finishGet, h, Bool.and_eq_true, decide_eq_true_eq]

/-- Settles O9: by what a whole GET does with an empty queue, with all of the head's bytes and with fewer. -/
theorem getSendsTheHead : Obligations.GetSendsTheHead := by
  have run (l : Link) (part : GetPart) {s : State} (low : s.rstnLow = false) {i : LinkState}
      (get : (s.link l).get part = i) : exec (.get l part) s = .next (s.setLink l i) :=
    congrArg Host.Outcome.next ((exchangeGet_of_high l part low).trans (by rw [get]))
  exact ⟨fun l n s low => ⟨fun empty => run l _ low (get_whole_empty n empty), fun r rest head =>
      ⟨fun long => run l _ low (get_whole_sent head long), fun short => run l _ low (get_whole_short head short)⟩⟩,
    fun l n s low => ⟨run l _ low rfl, fun g getting => run l _ low (get_finish n getting)⟩⟩

end Sys2Proof.Machine
end

section
/-! SUPPORT. The queries, IDENTIFY and the configuration requests: what each answers from the state in which it is
accepted. -/
namespace Sys2Proof.Machine

/-! ### The views -/

theorem withStaging_view {l : Link} {tag : Tag} {g : Configuration} {s : State} (take : Configuration → State → State)
    (h : s.view? l .staging = some g) : withStaging l tag take s = take g s := by
  have view : (if s.session.holder? = some l then s.session.staging? else none) = some g := h
  split at view
  · next holder => simp only [withStaging, holder, view, if_true]
  · cases view

theorem withView_view {l : Link} {tag : Tag} {v : View} {g : Configuration} {s : State}
    (take : Configuration → State → State) (h : s.view? l v = some g) : withView l tag v take s = take g s := by
  cases v with
  | committed => cases h; rfl
  | staging => exact withStaging_view take h

/-! ### IDENTIFY and the configuration requests -/

/-- Settles O12: each answers at once, CONFIGURE_LINK and CONFIGURE_DEVICE with their values replaced. -/
theorem identityAndConfiguration : Obligations.IdentityAndConfiguration := by
  refine ⟨fun l tag s ha => ?_, fun l tag ps c s ha block => ?_, fun l tag ps x y s ha block => ?_⟩
  · rw [exec_identify ha]
    refine congrArg Host.Outcome.next ((withBlock_empty l tag _ _).trans ((respond_accepted _ _ ha).trans ?_))
    cases l <;> rfl
  · have ha' : (s.setLink l { s.link l with config := c }).accepts l tag ps := by
      refine ⟨ha.1, ?_, ha.2.2⟩
      rw [State.link_setLink_self]
      exact ha.2.1
    have swap : configureLink l c (s.accepted l tag ps) =
        (s.setLink l { s.link l with config := c }).accepted l tag ps := by
      simp only [configureLink, State.accepted, State.link_setLink_self, State.setLink_setLink]
    rw [exec_configureLink ha, takeConfigureLink, withBlock_some _ _ block, swap, answer_accepted _ ha']
  · rw [exec_configureDevice ha, takeConfigureDevice, withBlock_some _ _ block]
    exact congrArg Host.Outcome.next (answer_accepted (s := { s with tSess := x, tCmt := y }) .ok ha)

/-! ### QUERY_ENDPOINT -/

theorem find_committed (s : State) (n : Nat) :
    s.committed.endpoints.find n = (s.records.find n).map Record.config :=
  Table.find_mapValues (fun _ (r : Record) => r.config) s.records n

/-- Settles O13: the committed view by the record of the handle, the staging view by the configurations of its slot. -/
theorem queryEndpointAnswers : Obligations.QueryEndpointAnswers := by
  refine ⟨fun l tag ps h s ha block => ?_, fun l tag ps h g s ha block view => ?_⟩
  · rw [exec_queryEndpoint ha, takeQueryEndpoint, withBlock_some _ _ block]
    refine congrArg Host.Outcome.next ?_
    cases hr : s.record? h with
    | none => exact (withRecord_none (s := s.accepted l tag ps) _ hr).trans (answer_accepted _ ha)
    | some r => exact (withRecord_some (s := s.accepted l tag ps) _ hr).trans (respond_accepted _ _ ha)
  · rw [exec_queryEndpoint ha, takeQueryEndpoint, withBlock_some _ _ block]
    refine congrArg Host.Outcome.next ((withStaging_view (s := s.accepted l tag ps) _ view).trans ?_)
    have committed : (s.accepted l tag ps).committed.endpoints.find h.slot =
        (s.records.find h.slot).map Record.config := find_committed s h.slot
    have generation : (s.accepted l tag ps).generation h.slot = s.generation h.slot := rfl
    rw [queryStagedEndpoint, committed, generation]
    by_cases current : s.generation h.slot = h.gen
    · rw [if_pos current, if_neg (not_not.mpr current)]
      cases (s.records.find h.slot).map Record.config with
      | none =>
        cases g.endpoints.find h.slot with
        | none => exact answer_accepted _ ha
        | some c => exact respond_accepted _ _ ha
      | some d =>
        cases g.endpoints.find h.slot with
        | none => exact respond_accepted _ _ ha
        | some c =>
          refine (respond_accepted _ _ ha).trans ?_
          by_cases same : c = d <;> simp [same, byteOf]
    · rw [if_neg current, if_pos current, answer_accepted _ ha]

/-! ### LOOKUP and LIST_ENDPOINTS -/

theorem exec_lookup_view {l : Link} {tag : Tag} {ps : List Byte} {v : View} {key : LookupKey} {g : Configuration}
    {s : State} (ha : s.accepts l tag ps) (block : lookupBlock? ps = some (v, key)) (view : s.view? l v = some g) :
    exec (.lookup l tag ps) s = .next (match g.endpoints.find? fun e => key.matches e.2 with
      | some e => s.answered l tag ps .ok (handleBytes ⟨e.1, s.generation e.1⟩)
      | none => s.answered l tag ps .notFound []) := by
  rw [exec_lookup ha, takeLookup, withBlock_some _ _ block]
  refine congrArg Host.Outcome.next ((withView_view (s := s.accepted l tag ps) _ view).trans ?_)
  cases g.endpoints.find? fun e => key.matches e.2 with
  | none => exact answer_accepted _ ha
  | some e => exact respond_accepted _ _ ha

/-- The continuation is the slot after the last of a full answer, where there is one (R18). -/
theorem continuation_eq {slots : List Nat} {last : Nat} (full : slots.length = 8) (h : slots.getLast? = some last) :
    continuation slots = if last < 127 then byteOf (last + 1) else 0xFF := by
  simp [continuation, h, full, Config.listedHandles]

theorem continuation_short {slots : List Nat} (short : slots.length < 8) : continuation slots = 0xFF := by
  rw [continuation]
  split
  · exact if_neg fun h => absurd h.1 (Nat.ne_of_lt short)
  · rfl

/-- Settles O14: LOOKUP by the first record of the view that matches; the slots of LIST_ENDPOINTS are at most eight. -/
theorem lookupAndListAnswers : Obligations.LookupAndListAnswers := by
  refine ⟨fun l tag ps v key g s ha block view => ⟨fun none => ?_, fun n c member found => ?_⟩, fun _ _ _ => rfl,
    fun _ _ => rfl, fun l tag ps v start g s ha block view => ?_⟩
  · have nothing : (g.endpoints.find? fun e => key.matches e.2) = .none :=
      List.find?_eq_none.mpr fun e he => by rw [none e.1 e.2 he]; simp
    rw [exec_lookup_view ha block view, nothing]
  · obtain ⟨e, he⟩ := Option.isSome_iff_exists.mp
      (List.find?_isSome (p := fun e => key.matches e.2).mpr ⟨(n, c), member, found⟩)
    refine ⟨e.1, e.2, List.mem_of_find?_eq_some he, List.find?_some
        (p := fun e : Nat × EndpointConfig => key.matches e.2) he, ?_⟩
    rw [exec_lookup_view ha block view, he]
  · refine ⟨listedSlots g start, continuation (listedSlots g start), rfl, continuation_short,
      fun last full h => continuation_eq full h, ?_⟩
    rw [exec_listEndpoints ha, takeListEndpoints, withBlock_some _ _ block]
    refine congrArg Host.Outcome.next ((withView_view (s := s.accepted l tag ps) _ view).trans ?_)
    exact respond_accepted _ _ ha

/-! ### QUERY_SEGMENT, QUERY_GROUP and QUERY_DIRECTORY -/

theorem Port.num_of_ofNat? {n : Nat} {p : Port} (h : Port.ofNat? n = some p) : p.num = n := by
  unfold Port.ofNat? at h
  split at h <;> cases h <;> rfl

theorem Port.ofNat?_eq_none {n : Nat} (h : 6 ≤ n) : Port.ofNat? n = none := by
  unfold Port.ofNat?
  split <;> first | rfl | omega

theorem segmentBytes_root {segments : Table Segment} {n : Nat} {p : Port} (h : Port.ofNat? n = some p) :
    segmentBytes segments n = some [0, byteOf n, 0, 0, 0] := by
  rw [segmentBytes, h]
  exact congrArg (fun k => some [0, byteOf k, 0, 0, 0]) (Port.num_of_ofNat? h)

theorem segmentBytes_configurable (segments : Table Segment) {n : Nat} (h : 6 ≤ n) :
    segmentBytes segments n = (segments.find n).map fun x =>
      [1, byteOf x.port.num, x.mux.setWidth 8, x.channel.setWidth 8, byteOf x.speed.num] := by
  rw [segmentBytes, Port.ofNat?_eq_none h]

/-- A record is at rest with nothing in flight and no reservation. -/
theorem atRest_eq (s : State) (h : Handle) :
    (!s.atRest h) = decide (s.inFlight h ≠ 0 ∨ (s.reservation? h).isSome = true) := by
  rw [State.atRest, Bool.not_and, ← decide_not, Option.not_isNone, Bool.decide_or, Bool.decide_eq_true]

theorem directoryPayload_length (s : State) : s.directoryPayload.length = 17 := by
  simp [State.directoryPayload, State.remainingBytes, wordOf]

theorem remainingBytes_none (s : State) : s.remainingBytes none = [0, 0] := by
  simp [State.remainingBytes, wordOf]

theorem directoryPayload_eq (s : State) : s.directoryPayload = wordOf s.epoch.toNat ++
        [byteOf s.records.length,
          byteOf (s.records.filter fun e => match e.2.runtime.health with | .quarantined _ => true | _ => false).length,
          byteOf (s.records.filter fun e => match e.2.runtime.health with | .probing _ => true | _ => false).length,
          byteOf s.segments.length, byteOf s.groups.length] ++
        (match s.session with
          | .absent => [0, 0, 0, 0, 0, 0, 0, 0, 0, 0]
          | .opened h g expiry =>
            [1, match h with | .a => 1 | .b => 2, byteOf g.endpoints.length] ++ wordOf (s.remaining expiry) ++
              [0, 0, 0, 0, 0]
          | .armed h g k =>
            [2, match h with | .a => 1 | .b => 2, byteOf g.endpoints.length, 0, 0,
              match k.mode with | .wait => 0 | .preempt => 1, byteOf k.affected.length,
              byteOf (k.affected.filter fun j =>
                decide (s.inFlight j ≠ 0 ∨ (s.reservation? j).isSome = true)).length] ++
              wordOf (s.remaining k.deadline)) := by
  have payload : s.directoryPayload = wordOf s.epoch.toNat ++
      [byteOf s.records.length, byteOf (s.records.countIf fun r => r.runtime.health.isQuarantined),
        byteOf (s.records.countIf fun r => r.runtime.health.isProbing), byteOf s.segments.length,
        byteOf s.groups.length] ++
      ([byteOf s.session.num, byteOf (holderNum s.session.holder?),
        byteOf ((s.session.staging?.map fun g => g.endpoints.length).getD 0)] ++
        s.remainingBytes s.session.idleExpiry? ++ [byteOf ((s.session.commit?.map fun c => c.mode.num).getD 0),
        byteOf s.session.affected.length, byteOf (s.session.affected.countP fun h => !s.atRest h)] ++
        s.remainingBytes (s.session.commit?.map CommitRecord.deadline)) := by
    simp [State.directoryPayload]
  refine payload.trans (congrArg₂ _ rfl ?_)
  cases s.session with
  | absent =>
    rw [show Session.absent.idleExpiry? = none from rfl, show Session.absent.commit? = none from rfl, Option.map_none,
      Option.map_none, remainingBytes_none]
    rfl
  | opened h g expiry =>
    rw [show (Session.opened h g expiry).commit? = none from rfl, Option.map_none, Option.map_none, remainingBytes_none]
    cases h <;> rfl
  | armed h g k =>
    have affected : (k.affected.countP fun j => !s.atRest j) =
        (k.affected.filter fun j => decide (s.inFlight j ≠ 0 ∨ (s.reservation? j).isSome = true)).length := by
      rw [List.countP_eq_length_filter, funext (atRest_eq s)]
    dsimp only
    rw [← affected, show (Session.armed h g k).idleExpiry? = none from rfl, remainingBytes_none]
    obtain ⟨mode, deadline, tag, list⟩ := k
    cases h <;> cases mode <;> rfl

/-- Settles O15: each by the tables of the view that it reads. -/
theorem segmentGroupAndDirectoryAnswers : Obligations.SegmentGroupAndDirectoryAnswers := by
  refine ⟨fun l tag ps n s ha block => ?_, fun l tag ps n g s ha block view => ?_,
    fun l tag ps n v g s ha block view => ?_,
    fun l tag s ha => ⟨_, _, rfl, directoryPayload_eq s, directoryPayload_length s, ?_⟩,
    fun segments => ⟨fun n p h => segmentBytes_root h, fun n x h hx => ?_, fun n h hx => ?_⟩⟩
  · rw [exec_querySegment ha, takeQuerySegment, withBlock_some _ _ block]
    refine congrArg Host.Outcome.next ?_
    change querySegmentCommitted l tag n (s.accepted l tag ps) = _
    unfold querySegmentCommitted
    rw [accepted_segments]
    cases segmentBytes s.segments n with
    | none => exact answer_accepted _ ha
    | some bytes => exact respond_accepted _ _ ha
  · rw [exec_querySegment ha, takeQuerySegment, withBlock_some _ _ block]
    refine congrArg Host.Outcome.next ((withStaging_view (s := s.accepted l tag ps) _ view).trans ?_)
    unfold querySegmentStaged
    rw [accepted_segments]
    cases segmentBytes s.segments n <;> cases segmentBytes g.segments n
    case none.none => exact answer_accepted _ ha
    all_goals exact respond_accepted _ _ ha
  · rw [exec_queryGroup ha, takeQueryGroup, withBlock_some _ _ block]
    refine congrArg Host.Outcome.next ?_
    cases v with
    | committed =>
      cases view
      refine (respond_accepted _ _ ha).trans ?_
      rw [List.append_nil]
      rfl
    | staging => exact (withStaging_view (s := s.accepted l tag ps) _ view).trans (respond_accepted _ _ ha)
  · rw [exec_queryDirectory ha]
    exact congrArg Host.Outcome.next ((withBlock_empty l tag _ _).trans (respond_accepted _ _ ha))
  · rw [segmentBytes_configurable segments h, hx]
    obtain ⟨port, mux, channel, speed⟩ := x
    cases speed <;> rfl
  · rw [segmentBytes_configurable segments h, hx]
    rfl

end Sys2Proof.Machine
end

section
/-! SUPPORT. The staging session: who may use it, the staged edits and their refusals, and how an armed commit or an
idle session ends (R26 to R45). -/
namespace Sys2Proof.Machine

/-! ### Access to the session -/

/-- The session check lets nobody but the holder in OPEN pass (R28). -/
theorem withOpenSession_refused (l : Link) (tag : Tag) (take : Configuration → State → State) (s : State) :
    (s.session = .absent → withOpenSession l tag take s = answer l tag .noSession s) ∧
    (s.session.holder? = some l.other → withOpenSession l tag take s = answer l tag .sessionHeld s) ∧
    ∀ g x, s.session = .armed l g x → withOpenSession l tag take s = answer l tag .stageFrozen s := by
  have other : l.other ≠ l := by cases l <;> decide
  refine ⟨fun h => by simp only [withOpenSession, h], fun h => ?_, fun g x h => by simp [withOpenSession, h]⟩
  cases hs : s.session with
  | absent => rw [hs] at h; cases h
  | opened m g e =>
    rw [hs] at h
    cases h
    simp [withOpenSession, hs, other]
  | armed m g x =>
    rw [hs] at h
    cases h
    simp [withOpenSession, hs, other]

/-- View access refuses a link that does not hold the session (R15). -/
theorem withStaging_refused (l : Link) (tag : Tag) (take : Configuration → State → State) (s : State) :
    (s.session = .absent → withStaging l tag take s = answer l tag .noSession s) ∧
    (s.session.holder? = some l.other → withStaging l tag take s = answer l tag .sessionHeld s) := by
  have other : l.other ≠ l := by cases l <;> decide
  refine ⟨fun h => by simp [withStaging, h, Session.holder?], fun h => ?_⟩
  cases hs : s.session with
  | absent => rw [hs] at h; cases h
  | opened m g e =>
    rw [hs] at h
    cases h
    simp [withStaging, hs, other, Session.holder?, Session.staging?]
  | armed m g x =>
    rw [hs] at h
    cases h
    simp [withStaging, hs, other, Session.holder?, Session.staging?]

/-- A staged edit, DISCARD_SESSION and COMMIT come to the session check once their block has been read (R28). -/
theorem exec_needsOpen {c : Instr} {l : Link} {tag : Tag} {ps : List Byte} {s : State}
    (h : c.request? = some (l, tag, ps)) (needs : c.needsOpen = true) (reads : c.blockReads = true)
    (ha : s.accepts l tag ps) :
    ∃ take, exec c s = .next (withOpenSession l tag take (s.accepted l tag ps)) := by
  have run {α : Type} {block : Option α} (take : α → Configuration → State → State) (read : block.isSome = true) :
      ∃ f, acceptRequest l tag ps (withBlock l tag block fun a => withOpenSession l tag (take a)) s =
        withOpenSession l tag f (s.accepted l tag ps) := by
    obtain ⟨a, ha'⟩ := Option.isSome_iff_exists.mp read
    exact ⟨take a, (acceptRequest_accepts _ ha).trans (withBlock_some _ _ ha')⟩
  cases c <;> cases needs <;> cases h
  all_goals
    obtain ⟨f, hf⟩ := run _ reads
    exact ⟨f, congrArg Host.Outcome.next hf⟩

/-- A query that names the staging view comes to the view access (R15). -/
theorem exec_namesStaging {c : Instr} {l : Link} {tag : Tag} {ps : List Byte} {s : State}
    (h : c.request? = some (l, tag, ps)) (names : c.namesStaging = true) (ha : s.accepts l tag ps) :
    ∃ take, exec c s = .next (withStaging l tag take (s.accepted l tag ps)) := by
  have run {α : Type} {block : Option α} {take : α → State → State} {view : α → View}
      (named : (block.any fun x => decide (view x = .staging)) = true)
      (staged : ∀ x, view x = .staging → ∃ f,
        take x (s.accepted l tag ps) = withStaging l tag f (s.accepted l tag ps)) :
      ∃ f, acceptRequest l tag ps (withBlock l tag block take) s = withStaging l tag f (s.accepted l tag ps) := by
    cases block with
    | none => cases named
    | some x =>
      obtain ⟨f, hf⟩ := staged x (of_decide_eq_true named)
      exact ⟨f, (acceptRequest_accepts _ ha).trans hf⟩
  suffices staged : ∃ t, exec c s = .next t ∧ ∃ f, t = withStaging l tag f (s.accepted l tag ps) by
    obtain ⟨t, ht, f, hf⟩ := staged
    exact ⟨f, ht.trans (congrArg Host.Outcome.next hf)⟩
  cases c with
  | queryEndpoint m g qs =>
    cases h
    exact ⟨_, rfl, run (view := Prod.snd) names fun (x, v) staging => by cases staging; exact ⟨_, rfl⟩⟩
  | lookup m g qs =>
    cases h
    exact ⟨_, rfl, run (view := Prod.fst) names fun (v, x) staging => by
      cases staging; dsimp only [withView]; exact ⟨_, rfl⟩⟩
  | listEndpoints m g qs =>
    cases h
    exact ⟨_, rfl, run (view := Prod.fst) names fun (v, x) staging => by cases staging; exact ⟨_, rfl⟩⟩
  | querySegment m g qs =>
    cases h
    exact ⟨_, rfl, run (view := Prod.snd) names fun (x, v) staging => by cases staging; exact ⟨_, rfl⟩⟩
  | queryGroup m g qs =>
    cases h
    exact ⟨_, rfl, run (view := Prod.snd) names fun (x, v) staging => by cases staging; exact ⟨_, rfl⟩⟩
  | _ => cases names

theorem exec_abortCommit_eq {l : Link} {tag : Tag} {s : State} (ha : s.accepts l tag []) :
    exec (.abortCommit l tag []) s = .next (match s.session with
      | .absent => answer l tag .noSession (s.accepted l tag [])
      | .opened h _ _ => answer l tag (if h = l then .stageFrozen else .sessionHeld) (s.accepted l tag [])
      | .armed h _ _ =>
        if h = l then answer l tag .ok (failCommit .commitAborted (s.accepted l tag []))
        else answer l tag .sessionHeld (s.accepted l tag [])) :=
  (exec_abortCommit ha).trans (congrArg Host.Outcome.next (withBlock_empty l tag _ _))

/-- Settles O17: by the session check of the edits, that of ABORT_COMMIT, and the view access of the queries. -/
theorem sessionAccess : Obligations.SessionAccess := by
  refine ⟨⟨fun c l tag ps s request needs reads ha => ?_, fun l tag s ha => ?_⟩,
    fun c l tag ps s request names ha => ?_⟩
  · obtain ⟨take, run⟩ := exec_needsOpen request needs reads ha
    obtain ⟨absent, held, armed⟩ := withOpenSession_refused l tag take (s.accepted l tag ps)
    rw [run]
    exact ⟨fun h => congrArg _ ((absent h).trans (answer_accepted _ ha)),
      fun h => congrArg _ ((held h).trans (answer_accepted _ ha)),
      fun g x h => congrArg _ ((armed g x h).trans (answer_accepted _ ha))⟩
  · have other : l.other ≠ l := by cases l <;> decide
    rw [exec_abortCommit_eq ha]
    refine ⟨fun h => ?_, fun h => ?_, fun g e h => ?_⟩
    · simp only [h, answer_accepted _ ha]
    · cases hs : s.session with
      | absent => rw [hs] at h; cases h
      | opened m g e =>
        rw [hs] at h
        cases h
        simp only [if_neg other, answer_accepted _ ha]
      | armed m g x =>
        rw [hs] at h
        cases h
        simp only [if_neg other, answer_accepted _ ha]
    · simp only [h, ↓reduceIte, answer_accepted _ ha]
  · obtain ⟨take, run⟩ := exec_namesStaging request names ha
    obtain ⟨absent, held⟩ := withStaging_refused l tag take (s.accepted l tag ps)
    rw [run]
    exact ⟨fun h => congrArg _ ((absent h).trans (answer_accepted _ ha)),
      fun h => congrArg _ ((held h).trans (answer_accepted _ ha))⟩

/-! ### Staged edits -/

theorem applyEdit_accepted {l : Link} {tag : Tag} {ps : List Byte} {s : State} (g : Configuration) (payload : List Byte)
    (ha : s.accepts l tag ps) : applyEdit l tag g payload (s.accepted l tag ps) =
      ({ s with session := .opened l g (s.after s.tSess) } : State).answered l tag ps .ok payload :=
  respond_accepted (s := { s with session := .opened l g (s.after s.tSess) }) .ok payload ha

theorem unlessRefused_ite (l : Link) (tag : Tag) (c : Prop) [Decidable c] (o : Status) (refusal : Option Status)
    (take : State → State) (s : State) :
    unlessRefused l tag (if c then some o else refusal) take s =
      if c then answer l tag o s else unlessRefused l tag refusal take s := by
  split <;> rfl

theorem unlessRefused_none (l : Link) (tag : Tag) (take : State → State) (s : State) :
    unlessRefused l tag none take s = take s := rfl

theorem addEndpoint_eq (l : Link) (tag : Tag) (c : EndpointConfig) (g : Configuration) (s : State) :
    addEndpoint l tag c g s = unlessRefused l tag (recordRefusal g none c) (fun s => match s.newSlot? g with
      | none => answer l tag .tableFull s
      | some n => applyEdit l tag { g with endpoints := g.endpoints.put n c } (handleBytes (s.handleAt n)) s) s := by
  unfold addEndpoint unlessRefused
  cases recordRefusal g none c with
  | some status => rfl
  | none =>
    dsimp only
    cases s.newSlot? g <;> rfl

theorem addSegment_eq (l : Link) (tag : Tag) (x : Segment) (g : Configuration) (s : State) :
    addSegment l tag x g s = unlessRefused l tag (segmentRefusal g x) (fun s => match s.newSegment? g with
      | none => answer l tag .tableFull s
      | some n => applyEdit l tag { g with segments := g.segments.put n x } [byteOf n] s) s := by
  unfold addSegment unlessRefused
  cases segmentRefusal g x with
  | some status => rfl
  | none =>
    dsimp only
    cases s.newSegment? g <;> rfl

theorem validStaged_eq_false {s : State} {g : Configuration} {h : Handle} :
    ¬ s.validStaged g h = true ↔ s.generation h.slot ≠ h.gen ∨ g.endpoints.find h.slot = none := by
  rw [validStaged_iff, not_and_or, Option.not_isSome_iff_eq_none]

/-- The checks of a record that is to replace none (R30). -/
theorem recordRefusal_new (g : Configuration) (c : EndpointConfig) : recordRefusal g none c =
    if segmentPresent g.segments c.segment = false then some .noSuchSegment
    else if g.endpoints.any (fun e => decide (e.2.segment = c.segment ∧ e.2.address = c.address)) then
      some .duplicateAddress
    else if c.label.isSome = true ∧ (g.endpoints.any fun e => decide (e.2.label = c.label)) = true then
      some .duplicateLabel
    else if g.segments.any (fun e => decide (e.2.port = portOfSegment g.segments c.segment ∧ e.2.mux = c.address)) then
      some .addressConflict
    else none := by
  have others : (g.endpoints.filter fun e => decide (some e.1 ≠ none)) = g.endpoints :=
    List.filter_eq_self.mpr fun e _ => by simp
  rw [recordRefusal, others]
  exact if_congr Iff.rfl rfl (if_congr Iff.rfl rfl (if_congr (Bool.and_eq_true _ _).to_iff rfl rfl))

/-- The checks of a record that is to replace that of a slot (R31). -/
theorem recordRefusal_own (g : Configuration) (n : Nat) (c : EndpointConfig) : recordRefusal g (some n) c =
    if segmentPresent g.segments c.segment = false then some .noSuchSegment
    else if g.endpoints.any (fun e => decide (e.1 ≠ n ∧ e.2.segment = c.segment ∧ e.2.address = c.address)) then
      some .duplicateAddress
    else if c.label.isSome = true ∧ (g.endpoints.any fun e => decide (e.1 ≠ n ∧ e.2.label = c.label)) = true then
      some .duplicateLabel
    else if g.segments.any (fun e => decide (e.2.port = portOfSegment g.segments c.segment ∧ e.2.mux = c.address)) then
      some .addressConflict
    else none := by
  rw [recordRefusal]
  refine if_congr Iff.rfl rfl (if_congr ?_ rfl (if_congr ?_ rfl rfl))
  · simp [EndpointConfig.sameRoute, List.any_filter]
  · simp [List.any_filter]

theorem Table.find_filter {α : Type} {t : Table α} (f : Nat × α → Bool) (h : t.sorted = true) (n : Nat) :
    Table.find (List.filter f t) n = (t.find n).filter fun v => f (n, v) := by
  have sorted := Table.sorted_filter f h
  refine Option.ext fun v => ?_
  rw [← Table.mem_iff_find sorted, List.mem_filter, Table.mem_iff_find h, Option.filter_eq_some_iff]

/-- A group's list without a handle (R12, R32). -/
theorem group_groupsWithout (h : Handle) {groups : Table (List Handle)} (sorted : groups.sorted = true) (n : Nat) :
    ((groupsWithout h groups).find n).getD [] = ((groups.find n).getD []).filter fun x => decide (x ≠ h) := by
  rw [groupsWithout, Table.find_filter _ ((Table.sorted_mapValues _ _).trans sorted), Table.find_mapValues]
  cases groups.find n with
  | none => rfl
  | some hs =>
    rw [Option.map_some, Option.getD_some, Option.filter]
    cases hs.filter fun x => decide (x ≠ h) <;> rfl

theorem lowestFree_eq_some {bound n : Nat} {used : Nat → Bool} :
    lowestFree bound used = some n ↔ n < bound ∧ used n = false ∧ ∀ m < n, used m = true := by
  rw [lowestFree, List.find?_range_eq_some, List.mem_range]
  simp only [Bool.not_eq_true', Bool.not_not]
  exact and_left_comm

theorem newSlot?_eq_some {s : State} {g : Configuration} {n : Nat} (h : s.newSlot? g = some n) :
    n < 128 ∧ s.records.find n = none ∧ g.endpoints.find n = none ∧
      ∀ m < n, (s.records.find m).isSome = true ∨ (g.endpoints.find m).isSome = true := by
  obtain ⟨bound, free, least⟩ := lowestFree_eq_some.mp h
  simp only [Bool.or_eq_false_iff, Option.isSome_eq_false_iff, Option.isNone_iff_eq_none] at free
  exact ⟨bound, free.1, free.2, fun m hm => (Bool.or_eq_true _ _).mp (least m hm)⟩

theorem newSegment?_eq_some {s : State} {g : Configuration} {n : Nat} (h : s.newSegment? g = some n) :
    6 ≤ n ∧ n < 32 ∧ s.segments.find n = none ∧ g.segments.find n = none ∧
      ∀ m < n, 6 ≤ m → (s.segments.find m).isSome = true ∨ (g.segments.find m).isSome = true := by
  obtain ⟨bound, free, least⟩ := lowestFree_eq_some.mp h
  simp only [Bool.or_eq_false_iff, Option.isSome_eq_false_iff, Option.isNone_iff_eq_none, decide_eq_false_iff_not,
    Nat.not_lt] at free
  obtain ⟨⟨root, committed⟩, staged⟩ := free
  refine ⟨root, bound, committed, staged, fun m hm high => ?_⟩
  have used := least m hm
  rw [decide_eq_false (Nat.not_lt.mpr (show Config.rootSegments ≤ m from high)), Bool.false_or] at used
  exact (Bool.or_eq_true _ _).mp used

theorem exec_edit {c : Instr} {l : Link} {tag : Tag} {ps : List Byte} {α : Type} {block : Option α} {a : α}
    {g : Configuration} {expiry : Time} {s : State} (take : α → Configuration → State → State)
    (run : exec c s = .next (withBlock l tag block (fun a => withOpenSession l tag (take a)) (s.accepted l tag ps)))
    (open_ : s.session = .opened l g expiry) (read : block = some a) :
    exec c s = .next (take a g (s.accepted l tag ps)) := by
  rw [run, withBlock_some _ _ read]
  exact congrArg Host.Outcome.next (withOpenSession_opened (s := s.accepted l tag ps) _ open_)

/-- Settles O18: the edits by their refusals in the order of the checks, and by the view they leave. -/
theorem recordEditsInOrder : Obligations.RecordEditsInOrder := by
  intro l tag ps g expiry s ha open_
  refine ⟨fun c read => ?_, fun n h => newSlot?_eq_some h, fun sorted h n => group_groupsWithout h sorted n,
    fun h c read => ?_, fun h read => ?_⟩
  · rw [exec_edit _ (exec_addEndpoint ha) open_ read, addEndpoint_eq, recordRefusal_new]
    simp only [unlessRefused_ite, unlessRefused_none, answer_accepted _ ha, applyEdit_accepted _ _ ha]
    rfl
  · rw [exec_edit (fun x : Handle × EndpointConfig => modifyEndpoint l tag x.1 x.2) (exec_modifyEndpoint ha) open_ read]
    by_cases valid : s.validStaged g h = true
    · have kept : (s.accepted l tag ps).validStaged g h = true := valid
      rw [if_neg (mt validStaged_eq_false.mpr (not_not.mpr valid)), modifyEndpoint, if_pos kept, recordRefusal_own]
      simp only [unlessRefused_ite, unlessRefused_none, answer_accepted _ ha, applyEdit_accepted _ _ ha]
      rfl
    · have stale : ¬ (s.accepted l tag ps).validStaged g h = true := valid
      rw [if_pos (validStaged_eq_false.mp valid), modifyEndpoint, if_neg stale, answer_accepted _ ha]
  · rw [exec_edit (retireEndpoint l tag) (exec_retireEndpoint ha) open_ read]
    by_cases valid : s.validStaged g h = true
    · have kept : (s.accepted l tag ps).validStaged g h = true := valid
      rw [if_neg (mt validStaged_eq_false.mpr (not_not.mpr valid)), retireEndpoint, if_pos kept,
        applyEdit_accepted _ _ ha]
    · have stale : ¬ (s.accepted l tag ps).validStaged g h = true := valid
      rw [if_pos (validStaged_eq_false.mp valid), retireEndpoint, if_neg stale, answer_accepted _ ha]

theorem group_setGroup (g : Configuration) (n : Nat) (hs : List Handle) :
    (g.setGroup n hs).group n = hs ∧ ∀ m, m ≠ n → (g.setGroup n hs).group m = g.group m := by
  cases hs with
  | nil =>
    exact ⟨congrArg (fun o => Option.getD o []) (Table.find_remove_self _ _),
      fun m h => congrArg (fun o => Option.getD o []) (Table.find_remove_ne _ _ _ h)⟩
  | cons x rest =>
    exact ⟨congrArg (fun o => Option.getD o []) (Table.find_put_self _ _ _),
      fun m h => congrArg (fun o => Option.getD o []) (Table.find_put_ne _ _ _ _ h)⟩

/-- Settles O19: as for records; a group is set to its list, and no other group changes. -/
theorem segmentAndGroupEditsInOrder : Obligations.SegmentAndGroupEditsInOrder := by
  intro l tag ps g expiry s ha open_
  refine ⟨fun x read => ?_, fun n h => newSegment?_eq_some h, fun n read => ?_, fun n hs read => ⟨fun stale => ?_,
    fun valid => ⟨g.setGroup n hs, ?_, rfl, rfl, group_setGroup g n hs⟩⟩⟩
  · rw [exec_edit _ (exec_addSegment ha) open_ read, addSegment_eq, segmentRefusal]
    simp only [unlessRefused_ite, unlessRefused_none, answer_accepted _ ha, applyEdit_accepted _ _ ha]
    rfl
  · rw [exec_edit _ (exec_retireSegment ha) open_ read, retireSegment]
    simp only [answer_accepted _ ha, applyEdit_accepted _ _ ha, Option.isNone_iff_eq_none]
  · have refused : ¬ (hs.all fun h => (s.accepted l tag ps).validStaged g h) = true := by
      obtain ⟨h, hm, bad⟩ := stale
      exact fun all => (validStaged_eq_false (s := s)).mpr bad (List.all_eq_true.mp all h hm)
    rw [exec_edit (fun x : Nat × List Handle => setGroup l tag x.1 x.2) (exec_setGroup ha) open_ read, setGroup,
      if_neg refused, answer_accepted _ ha]
  · have taken : (hs.all fun h => (s.accepted l tag ps).validStaged g h) = true :=
      List.all_eq_true.mpr fun h hm => (validStaged_iff (s := s)).mpr (valid h hm)
    rw [exec_edit (fun x : Nat × List Handle => setGroup l tag x.1 x.2) (exec_setGroup ha) open_ read, setGroup,
      if_pos taken, applyEdit_accepted _ _ ha]

/-! ### The commit of a session -/

/-- Settles O21: a record is affected where the view has none in its slot, or one with another route. -/
theorem affectedSetOfACommit : Obligations.AffectedSetOfACommit := by
  intro g s
  refine ⟨fun h => ?_, fun sorted => ?_⟩
  · have affected (e : Nat × Record) : (match g.endpoints.find e.1 with
        | none => true
        | some c => !e.2.config.sameRoute c) = true ↔
        ∀ c, g.endpoints.find e.1 = some c → c.segment ≠ e.2.config.segment ∨ c.address ≠ e.2.config.address := by
      cases g.endpoints.find e.1 with
      | none => simp
      | some c =>
        simp only [EndpointConfig.sameRoute, Bool.not_eq_true', decide_eq_false_iff_not, not_and_or, Option.some.injEq,
          forall_eq']
        exact or_congr ne_comm ne_comm
    rw [State.affectedBy, List.mem_map]
    constructor
    · rintro ⟨⟨n, r⟩, he, rfl⟩
      obtain ⟨member, changes⟩ := List.mem_filter.mp he
      exact ⟨n, r, member, rfl, (affected (n, r)).mp changes⟩
    · rintro ⟨n, r, member, rfl, changes⟩
      exact ⟨(n, r), List.mem_filter.mpr ⟨member, (affected (n, r)).mpr changes⟩, rfl⟩
  · have slots : (s.affectedBy g).map Handle.slot = (s.records.filter fun e =>
        match g.endpoints.find e.1 with
        | none => true
        | some c => !e.2.config.sameRoute c).map Prod.fst := by
      rw [State.affectedBy, List.map_map]
      rfl
    rw [slots]
    exact List.pairwise_map.mpr ((Table.sorted_iff _).mp (Table.sorted_filter _ sorted))

/-- Settles O20: a WAIT arming removes nothing, and with a record that is not at rest it does not reach the commit
point. -/
theorem waitCommitArms : Obligations.WaitCommitArms := by
  intro l tag ps d g expiry s ha open_ read ⟨h, member, busy⟩
  rw [exec_edit (fun (x : CommitMode × Option Nat) g s => settle [] s (arm l tag x.1 x.2 g s)) (exec_commit ha) open_
    read]
  refine congrArg Host.Outcome.next ?_
  have waits : ¬ ((armSession l tag .wait d g (s.accepted l tag ps)).session.affected.all
      (armSession l tag .wait d g (s.accepted l tag ps)).atRest) = true := by
    intro rest
    have atRest : s.atRest h = true := List.all_eq_true.mp rest h member
    have other := atRest_eq s h
    rw [atRest, decide_eq_true busy] at other
    cases other
  rw [arm, armingActions, commitIfAtRest, if_neg waits]
  exact settle_unchanged rfl rfl fun _ => rfl

/-! ### The ends of a session -/

/-- An armed commit that fails is answered, and its staging view is open again (R44, R45). -/
theorem failCommit_armed {l : Link} {g : Configuration} {x : CommitRecord} {s : State} (status : Status)
    (armed : s.session = .armed l g x) (held : x.tag ∈ (s.link l).outstanding) :
    failCommit status s = ({ s with session := .opened l g (s.after s.tSess) } : State).setLink l { s.link l with
      outstanding := (s.link l).outstanding.erase x.tag
      queue := (s.link l).queue ++ [Response.mk x.tag status []] } := by
  rw [failCommit, armed]
  dsimp only
  rw [answer_eq, respond_outstanding _ _ _ _ _ held]
  rfl

/-- ABORT_COMMIT of the holder in ARMED answers the COMMIT and then itself (R45). -/
theorem abort_answers {l : Link} {tag : Tag} {g : Configuration} {x : CommitRecord} {s : State}
    (ha : s.accepts l tag []) (armed : s.session = .armed l g x) (held : x.tag ∈ (s.link l).outstanding) :
    answer l tag .ok (failCommit .commitAborted (s.accepted l tag [])) =
      ({ s with session := .opened l g (s.after s.tSess) } : State).setLink l { s.link l with
        outstanding := (s.link l).outstanding.erase x.tag
        queue := (s.link l).queue ++ [Response.mk x.tag .commitAborted [], Response.mk tag .ok []]
        sent := putOut l [] } := by
  obtain ⟨fresh, _⟩ := (tagInUse_eq_false _ _).mp ha.2.1
  have link : (s.accepted l tag []).link l =
      { s.link l with outstanding := (s.link l).outstanding ++ [tag], sent := putOut l [] } :=
    State.link_setLink_self ..
  have held' : x.tag ∈ ((s.accepted l tag []).link l).outstanding := by
    rw [link]
    exact List.mem_append_left _ held
  have erased : ((s.link l).outstanding ++ [tag]).erase x.tag = (s.link l).outstanding.erase x.tag ++ [tag] :=
    List.erase_append_left _ held
  have fresh' : tag ∉ (s.link l).outstanding.erase x.tag := fun h => fresh (List.mem_of_mem_erase h)
  rw [failCommit_armed .commitAborted (s := s.accepted l tag []) armed held', link, erased, answer_eq,
    respond_outstanding _ _ _ _ _ (by rw [State.link_setLink_self]; simp), State.link_setLink_self,
    State.setLink_setLink, erase_append_self fresh', List.append_assoc]
  simp only [State.setLink, State.accepted, PerLink.set_set, List.cons_append, List.nil_append]
  rfl

/-- Settles O24: by the branches of ABORT_COMMIT and of the two expiries. -/
theorem armedCommitsFailAndSessionsExpire : Obligations.ArmedCommitsFailAndSessionsExpire := by
  refine ⟨fun l tag g x s ha armed held => ?_, fun l g expiry s h => ?_, fun l g x s h held => ?_, fun s h => ?_,
    fun s h => ?_⟩
  · rw [exec_abortCommit_eq ha, armed]
    dsimp only
    rw [if_pos rfl, abort_answers ha armed held]
  · refine congrArg Host.Outcome.next ?_
    rw [expireSession, h]
    rfl
  · refine congrArg Host.Outcome.next ?_
    rw [expireCommit, h]
    exact failCommit_armed .commitDeadline (s := s.upTo x.deadline) h held
  · refine congrArg Host.Outcome.next ?_
    rw [expireSession]
    split
    · next l g e eq => exact absurd eq (h l g e)
    · rfl
  · refine congrArg Host.Outcome.next ?_
    rw [expireCommit]
    split
    · next l g x eq => exact absurd eq (h l g x)
    · rfl

end Sys2Proof.Machine
end

section
/-! SUPPORT. The admission of transactions and release probes, and what their deadlines remove. -/
namespace Sys2Proof.Machine

/-! ### Admission -/

/-- The slot check fails where no slot is FREE or the link holds 32 (R48, R52). -/
theorem slotOpen_of_freeSlot? {s : State} {n : Nat} (l : Link) (h : s.freeSlot? = some n) :
    s.slotOpen l = decide (s.attributed l < 32) := by
  rw [State.slotOpen, h]
  rfl

theorem slotOpen_of_none {s : State} (l : Link) (h : s.freeSlot? = none) : s.slotOpen l = false := by
  rw [State.slotOpen, h]
  rfl

/-- A placement with a slot FREE takes that slot (R50). -/
theorem place_some {s : State} {n : Nat} (h : s.freeSlot? = some n) (origin : Origin) (l : Link) (x : Handle)
    (cfg : EndpointConfig) (op : Operation) (index : Option (BitVec 24)) (length : Option Nat) (data : List Byte)
    (deadline : Time) : place origin l x cfg op index length data deadline s = { s with pool := s.pool ++ [
      { slot := n, origin := origin, attributed := l, handle := x, snapshot := s.snapshot cfg, operation := op,
        index := index, length := length, data := data, deadline := deadline, epoch := s.epoch, retries := 0,
        losses := 0, orphan := false }] } := by
  rw [place, h]

/-- The port checks of an admission (R48), then those that follow. -/
theorem unlessRefused_port (l : Link) (tag : Tag) (t : State) (p : Port) (op : Operation) (rest : Option Status)
    (take : State → State) (s : State) :
    unlessRefused l tag (match t.portRefusal p op with | some status => some status | none => rest) take s =
      if (t.engine p).config.enable = false then answer l tag .portDisabled s
      else if t.portPermits p op = false then answer l tag .portHeld s
      else unlessRefused l tag rest take s := by
  rw [State.portRefusal]
  split_ifs <;> rfl

/-- The last check of an admission is that of the slot (R48). -/
theorem unlessRefused_slot (l : Link) (tag : Tag) (t : State) (take : State → State) (s : State) :
    unlessRefused l tag (if t.slotOpen l then none else some .noSlot) take s = match t.freeSlot? with
      | none => answer l tag .noSlot s
      | some _ => if 32 ≤ t.attributed l then answer l tag .noSlot s else take s := by
  cases h : t.freeSlot? with
  | none => rw [slotOpen_of_none l h]; rfl
  | some n =>
    rw [slotOpen_of_freeSlot? l h]
    by_cases full : 32 ≤ t.attributed l
    · rw [decide_eq_false (Nat.not_lt.mpr full)]
      exact (if_pos full).symm
    · rw [decide_eq_true (Nat.lt_of_not_le full)]
      exact (if_neg full).symm

theorem link_accepted_config (s : State) (l : Link) (tag : Tag) (ps : List Byte) :
    ((s.accepted l tag ps).link l).config = (s.link l).config := by
  rw [State.accepted, State.link_setLink_self]

theorem Health.isActive_eq_false (x : Health) : x.isActive = false ↔ x ≠ .active := by
  rw [← Bool.not_eq_true, Health.isActive_iff]

/-- Settles O25: the checks in their order, then the placement under the slot that is FREE. -/
theorem transactAdmission : Obligations.TransactAdmission := by
  intro l tag ps h o s ha read
  rw [exec_transact ha, takeTransact, withBlock_some _ _ read]
  refine congrArg Host.Outcome.next ?_
  cases hr : s.record? h with
  | none => exact (withRecord_none (s := s.accepted l tag ps) _ hr).trans (answer_accepted _ ha)
  | some r =>
    refine (withRecord_some (s := s.accepted l tag ps) _ hr).trans ?_
    simp only [transactRefusal, unlessRefused_ite, answer_accepted _ ha]
    refine if_congr Iff.rfl rfl (if_congr Iff.rfl rfl (if_congr (Health.isActive_eq_false _) rfl (if_congr Iff.rfl rfl
      (if_congr Iff.rfl rfl ((unlessRefused_port _ _ (s.accepted l tag ps) (s.portOf r.config) o.operation _ _ _).trans
        (if_congr Iff.rfl (answer_accepted _ ha) (if_congr Iff.rfl (answer_accepted _ ha) ?_)))))))
    have slots : (s.accepted l tag ps).freeSlot? = s.freeSlot? := rfl
    rw [unlessRefused_slot, answer_accepted _ ha, slots]
    cases free : s.freeSlot? with
    | none => rfl
    | some n =>
      refine if_congr Iff.rfl rfl ?_
      rw [placeTransact, place_some (slots.trans free), settle_accepted, link_accepted_config]
      rfl

theorem setRuntime_record {s : State} {h : Handle} {r : Record} (hr : s.record? h = some r) (rt : Runtime) :
    s.setRuntime h rt = { s with records := s.records.put h.slot { r with runtime := rt } } := by
  rw [State.setRuntime, hr]

/-- Settles O27: the checks in their order; the record is PROBING before its probe is placed. -/
theorem releaseAdmission : Obligations.ReleaseAdmission := by
  intro l tag ps h s ha read
  rw [exec_release ha, takeRelease, withBlock_some _ _ read]
  refine congrArg Host.Outcome.next ?_
  cases hr : s.record? h with
  | none => exact (withRecord_none (s := s.accepted l tag ps) _ hr).trans (answer_accepted _ ha)
  | some r =>
    refine (withRecord_some (s := s.accepted l tag ps) _ hr).trans ?_
    have hr' : (s.accepted l tag ps).record? h = some r := hr
    simp only [releaseRefusal, unlessRefused_ite, answer_accepted _ ha]
    refine if_congr Iff.rfl rfl ?_
    cases health : r.runtime.health with
    | active => exact answer_accepted _ ha
    | probing cause => exact answer_accepted _ ha
    | quarantined cause =>
      simp only [unlessRefused_ite, answer_accepted _ ha]
      refine if_congr Iff.rfl rfl ((unlessRefused_port _ _ (s.accepted l tag ps) (s.portOf r.config) .probe _ _ _).trans
        (if_congr Iff.rfl (answer_accepted _ ha) (if_congr Iff.rfl (answer_accepted _ ha) ?_)))
      have slots : (s.accepted l tag ps).freeSlot? = s.freeSlot? := rfl
      rw [unlessRefused_slot, answer_accepted _ ha, slots]
      cases free : s.freeSlot? with
      | none => rfl
      | some n =>
        refine if_congr Iff.rfl rfl ?_
        rw [startRelease, setRuntime_record hr', place_some (n := n), settle_accepted, link_accepted_config, health]
        · rfl
        · exact free

/-! ### Removals -/

theorem dataFor_nil (t : Txn) (o : Status) : t.dataFor o [] = [] := by
  rw [Txn.dataFor, ite_self]

/-- The delivery of an outcome without bytes to a TRANSACT of a link (R60). -/
theorem deliver_answers {t : Txn} {l : Link} {tag : Tag} (h : t.answers l tag) (o : Status) (s : State) :
    deliver t o [] s = respond l tag o (t.result []) s := by
  rw [deliver, h.2, deliverTo, h.1, dataFor_nil]
  rfl

theorem isProbe_of_answers {t : Txn} {l : Link} {tag : Tag} (h : t.answers l tag) : t.origin.isProbe = false := by
  rw [h.1]
  rfl

/-- The deadline of a QUEUED transaction removes it where it was queued when the deadline came (R56). -/
theorem expireTransaction_queued {slot : Nat} {t : Txn} {s : State} (found : s.txn? slot = some t)
    (queued : s.isActive t = false) :
    expireTransaction slot s = settle [] s (removeExamined t (some .deadlineExpired) (s.upTo t.deadline)) := by
  rw [expireTransaction, found]
  simp [queued]

theorem slot_of_txn? {s : State} {slot : Nat} {t : Txn} (h : s.txn? slot = some t) : t.slot = slot :=
  of_decide_eq_true (List.find?_some (p := fun t : Txn => decide (t.slot = slot)) h)

/-- A removal that is no probe's and meets no waiting member frees the slot and delivers (R57). -/
theorem removeQueued_plain {t : Txn} {s : State} (o : Status) (plain : t.origin.isProbe = false)
    (waiting : s.waiting = []) : removeQueued t (some o) s = deliver t o [] (s.withoutSlot t.slot) := by
  rw [removeQueued, plain]
  exact congrArg (deliver t o []) (freeSlot_none _ waiting)

theorem respond_quiet {l : Link} {tag : Tag} {o : Status} {d : List Byte} {s : State} (h : Handle) :
    (respond l tag o d s).commitPending h = s.commitPending h := by
  rw [State.commitPending, respond_session, State.commitPending]

theorem removeExamined_answers {t : Txn} {l : Link} {tag : Tag} {s : State} (o : Status) (h : t.answers l tag)
    (quiet : s.quiet t.handle) :
    removeExamined t (some o) s = respond l tag o (t.result []) (s.withoutSlot t.slot) := by
  rw [removeExamined, removeQueued_plain o (isProbe_of_answers h) quiet.1, deliver_answers h]
  exact examine_skip ((respond_quiet _).trans quiet.2)

theorem removeExamined_orphan {t : Txn} {s : State} (o : Status) (orphan : t.orphan = true)
    (plain : t.origin.isProbe = false) (quiet : s.quiet t.handle) :
    removeExamined t (some o) s = s.withoutSlot t.slot := by
  have silent : deliver t o [] (s.withoutSlot t.slot) = s.withoutSlot t.slot := by
    simp [deliver, orphan, plain]
  rw [removeExamined, removeQueued_plain o plain quiet.1, silent]
  exact examine_skip (s := s.withoutSlot t.slot) quiet.2

/-! ### The deadline of a context -/

theorem Table.put_put {α : Type} (t : Table α) (k : Nat) (v w : α) : (t.put k v).put k w = t.put k w := by
  induction t with
  | nil => simp [Table.put]
  | cons e rest ih =>
    obtain ⟨n, x⟩ := e
    by_cases low : k < n
    · simp [Table.put, low]
    · by_cases same : k = n <;> simp [Table.put, low, same, ih]

theorem Table.remove_put {α : Type} (t : Table α) (k : Nat) (v : α) : (t.put k v).remove k = t.remove k := by
  induction t with
  | nil => simp [Table.put, Table.remove]
  | cons e rest ih =>
    obtain ⟨n, x⟩ := e
    by_cases low : k < n
    · simp [Table.put, Table.remove, low]
    · by_cases same : k = n
      · simp [Table.put, Table.remove, same]
      · rw [Table.put, if_neg low, if_neg same, Table.remove, List.filter_cons, ← Table.remove, ih]
        conv_rhs => rw [Table.remove, List.filter_cons]
        rfl

/-- Where each member of a context with a transaction is ACTIVE, the deadline has nothing to remove (R160). -/
theorem queuedMembers_eq_nil {s : State} {c : Nat} (h : ∀ t ∈ s.pool, t.memberOf c = true → s.isActive t = true) :
    s.queuedMembers c = [] := by
  refine List.flatMap_eq_nil_iff.mpr fun p _ => List.filter_eq_nil_iff.mpr fun t ht member => ?_
  obtain ⟨pool, queued⟩ := List.mem_filter.mp ht
  simp [h t pool member] at queued

theorem closeIfDone_waits {c : Nat} {x : Context} {s : State} (found : s.contexts.find c = some x)
    (open_ : x.complete = false) : closeIfDone c s = s := by
  rw [closeIfDone, found]
  simp [open_]

theorem closeIfDone_reports {c : Nat} {x : Context} {s : State} (found : s.contexts.find c = some x)
    (done : x.complete = true) : closeIfDone c s =
      { respond x.link x.tag .ok (x.report c s.epoch) s with contexts := s.contexts.remove c } := by
  rw [closeIfDone, found]
  simp [done]

theorem isDone_endUnissued (o : Status) (m : Member) :
    (m.endUnissued o).condition.isDone = true ↔ ∀ p, m.condition ≠ .inFlight p := by
  obtain ⟨h, condition⟩ := m
  cases condition <;> simp [Member.endUnissued, MemberCondition.isDone]

theorem complete_endUnissued (o : Status) (x : Context) :
    (x.endUnissued o).complete = true ↔ ∀ m ∈ x.members, ∀ p, m.condition ≠ .inFlight p := by
  simp [Context.complete, Context.endUnissued, isDone_endUnissued]

/-- The deadline of a context ends its members without a transaction, and the report follows where no other is left
(R160). -/
theorem expireContext_active {c : Nat} {x : Context} {s : State} (found : s.contexts.find c = some x)
    (active : ∀ t ∈ s.pool, t.memberOf c = true → s.isActive t = true) :
    expireContext c s = settle [] s (closeIfDone c { s with
      now := max s.now x.deadline
      contexts := s.contexts.put c (x.endUnissued .deadlineExpired)
      waiting := s.waiting.filter fun w => decide (w.1 ≠ c) }) := by
  have nothing : (dropWaiting c ((s.upTo x.deadline).setContext c (x.endUnissued .deadlineExpired))).queuedMembers c =
      [] := queuedMembers_eq_nil active
  rw [expireContext, found]
  dsimp only
  rw [nothing, removeAllExamined, List.foldl_nil, setStopFlag, dropWaiting, State.setContext]
  dsimp only
  rw [Table.find_put_self]
  dsimp only [State.setContext]
  rw [Table.put_put]
  rfl

/-! ### The hand-out of the slot -/

/-- The one waiting member is handed the slot that a removal frees, and its issue continues (R54, R156). -/
theorem handOut_single {s : State} {k i n : Nat} {y : Context} {h : Handle} {r : Record}
    (waiting : s.waiting = [(k, i)]) (found : s.contexts.find k = some y)
    (member : y.members[i]? = some { handle := h, condition := .waiting (s.portOf r.config) })
    (record : s.record? h = some r) (taken : memberRefusal s y h r = none) (early : s.now < y.deadline)
    (free : s.freeSlot? = some n) (room : s.attributed y.link < 32) :
    handOut s = placeMember k i y h r { s with waiting := [] } := by
  have open_ : s.slotOpen y.link = true := (slotOpen_of_freeSlot? _ free).trans (decide_eq_true room)
  have continued : continueIssue k i { s with waiting := [] } =
      (placeMember k i y h r { s with waiting := [] }, false) := by
    have record' : ({ s with waiting := [] } : State).record? h = some r := record
    have taken' : memberRefusal { s with waiting := [] } y h r = none := taken
    have port : ({ s with waiting := [] } : State).portOf r.config = s.portOf r.config := rfl
    simp only [continueIssue, found, member, record', taken', port, ne_eq, not_true_eq_false, if_false,
      Nat.not_le.mpr early]
  have one : handOutOne (s, []) (k, i) = (placeMember k i y h r { s with waiting := [] }, []) := by
    have left : [(k, i)].erase (k, i) = [] := List.erase_cons_head _ _
    simp only [handOutOne, waiting, found, open_, List.mem_singleton, if_true, left, continued, Bool.false_eq_true,
      if_false]
  rw [handOut, waiting, List.foldl_cons, List.foldl_nil, one]
  rfl

theorem placeMember_eq {s : State} {k i n : Nat} {y : Context} {h : Handle} {r : Record}
    (found : s.contexts.find k = some y) (free : s.freeSlot? = some n) :
    placeMember k i y h r s = { s with
      contexts := s.contexts.put k { y with
        members := y.members.modify i fun m => { m with condition := .inFlight (s.portOf r.config) } }
      pool := s.pool ++ [
        { slot := n, origin := .member k i, attributed := y.link, handle := h, snapshot := s.snapshot r.config,
          operation := y.operation
          index := if r.config.indexWidth = 0 ∨ y.operation = Operation.probe then none else y.index
          length := y.length, data := y.data, deadline := y.deadline, epoch := s.epoch, retries := 0, losses := 0,
          orphan := false }] } := by
  rw [placeMember, place_some free, setMember]
  dsimp only
  rw [found]
  rfl

/-- Settles O26: each deadline by what it removes, and by what the slot it frees is taken for. -/
theorem deadlinesExpire : Obligations.DeadlinesExpire := by
  refine ⟨fun slot t s found active => ?_, fun slot t l tag s found queued answers held quiet => ?_,
    fun c x s found active => ⟨x.endUnissued .deadlineExpired, ?_, fun flight => ?_, fun flight held => ?_⟩,
    fun slot t s found queued orphan plain quiet => ?_,
    fun slot t l tag k i n y h r s u found queued answers held pending waiting context member record taken early hu
      free room => ?_⟩
  · refine congrArg Host.Outcome.next ?_
    rw [expireTransaction, found]
    simp [active]
  · refine congrArg Host.Outcome.next ?_
    rw [expireTransaction_queued found queued, removeExamined_answers (s := s.upTo t.deadline) _ answers quiet,
      slot_of_txn? found, respond_outstanding _ _ _ _ _ (by exact held)]
    rfl
  · rw [Context.endUnissued]
    refine congrArg (fun ms => { x with members := ms }) (List.map_congr_left fun m _ => ?_)
    obtain ⟨handle, condition⟩ := m
    cases condition <;> rfl
  · obtain ⟨m, hm, p, hp⟩ := flight
    have open_ : (x.endUnissued .deadlineExpired).complete = false :=
      Bool.eq_false_iff.mpr fun done => (complete_endUnissued _ x).mp done m hm p hp
    refine congrArg Host.Outcome.next ?_
    rw [expireContext_active found active, closeIfDone_waits (Table.find_put_self _ _ _) open_]
    exact settle_unchanged rfl rfl fun _ => rfl
  · have done := (complete_endUnissued .deadlineExpired x).mpr flight
    refine congrArg Host.Outcome.next ?_
    rw [expireContext_active found active, closeIfDone_reports (Table.find_put_self _ _ _) done,
      respond_outstanding _ _ _ _ _ (by exact held)]
    dsimp only [State.setLink]
    rw [Table.remove_put]
    exact settle_unchanged rfl rfl fun _ => rfl
  · refine congrArg Host.Outcome.next ?_
    rw [expireTransaction_queued found queued, removeExamined_orphan (s := s.upTo t.deadline) _ orphan plain quiet,
      slot_of_txn? found]
    rfl
  · refine congrArg Host.Outcome.next ?_
    subst hu
    have freed : freeSlot t.slot (s.upTo t.deadline) = placeMember k i y h r { s with
        now := max s.now t.deadline, waiting := []
        pool := s.pool.filter fun v => decide (v.slot ≠ slot) } := by
      rw [freeSlot, slot_of_txn? found]
      exact handOut_single (s := { s with
        now := max s.now t.deadline, pool := s.pool.filter fun v => decide (v.slot ≠ slot) })
        waiting context member record taken early free room
    rw [expireTransaction_queued found queued, removeExamined, removeQueued, isProbe_of_answers answers]
    simp only [Bool.false_eq_true, if_false]
    rw [freed, placeMember_eq (n := n) (by exact context) (by exact free), deliver_answers answers,
      examine_skip ((respond_quiet _).trans (by exact pending)), respond_outstanding _ _ _ _ _ (by exact held)]
    rfl

end Sys2Proof.Machine
end

section
/-! SUPPORT. What a removal of queued work leaves: records on which no member may be placed, and no queued transaction
on them; with it the quarantine entry (R57, R109). -/
namespace Sys2Proof.Machine

/-! ### Records -/

/-- The record of a handle after a change of the runtime part of another or of itself. -/
theorem record?_setRuntime {s : State} {h : Handle} {r : Record} (hr : s.record? h = some r) (rt : Runtime)
    (x : Handle) :
    (s.setRuntime h rt).record? x = if x = h then some { r with runtime := rt } else s.record? x := by
  have current : s.generation h.slot = h.gen := by
    by_contra stale
    simp [State.record?, stale] at hr
  rw [setRuntime_record hr]
  change (if s.generation x.slot = x.gen then (s.records.put h.slot _).find x.slot else none) = _
  rw [Table.find_put]
  by_cases slot : x.slot = h.slot
  · by_cases gen : s.generation x.slot = x.gen
    · have same : x = h := by
        obtain ⟨xs, xg⟩ := x
        obtain ⟨hs, hg⟩ := h
        simp_all
      simp [same, current]
    · have other : x ≠ h := by
        rintro rfl
        exact gen current
      rw [if_neg gen, if_neg other, State.record?, if_neg gen]
  · have other : x ≠ h := fun e => slot (congrArg Handle.slot e)
    rw [if_neg slot, if_neg other, State.record?]

theorem record?_setRuntime_self {s : State} {h : Handle} {r : Record} (hr : s.record? h = some r) (rt : Runtime) :
    (s.setRuntime h rt).record? h = some { r with runtime := rt } := by
  rw [record?_setRuntime hr, if_pos rfl]

/-- A removed probe's record keeps everything but that it is no longer PROBING (R57). -/
theorem record?_unprobe (h x : Handle) (s : State) :
    (unprobe h s).record? x = if x = h then
      (s.record? h).map fun r => { r with runtime := { r.runtime with health := r.runtime.health.unprobed } }
      else s.record? x := by
  rw [unprobe]
  cases hr : s.record? h with
  | none =>
    dsimp only
    split
    · next same => rw [same, hr, Option.map_none]
    · rfl
  | some r => exact record?_setRuntime hr _ x

/-! ### What decides whether a member may be placed, and which transactions are queued -/

/-- The states have the same records, generations, session and engines. -/
structure SameGates (s t : State) : Prop where
  records : t.records = s.records
  generations : t.generations = s.generations
  session : t.session = s.session
  engines : t.engines = s.engines

theorem SameGates.record? {s t : State} (g : SameGates s t) (h : Handle) : t.record? h = s.record? h := by
  rw [State.record?, State.record?, State.generation, State.generation, g.records, g.generations]

theorem SameGates.admits {s t : State} (g : SameGates s t) (h : Handle) : t.admits h ↔ s.admits h := by
  rw [State.admits, State.admits, g.record?, State.commitPending, State.commitPending, g.session]

theorem SameGates.isActive {s t : State} (g : SameGates s t) (x : Txn) : t.isActive x = s.isActive x := by
  rw [State.isActive, State.isActive, State.engine, State.engine, g.engines]

theorem sameGates_respond (l : Link) (tag : Tag) (o : Status) (d : List Byte) (s : State) :
    SameGates s (respond l tag o d s) :=
  ⟨respond_records .., respond_generations .., respond_session .., respond_engines ..⟩

theorem sameGates_place (origin : Origin) (l : Link) (h : Handle) (cfg : EndpointConfig) (op : Operation)
    (index : Option (BitVec 24)) (length : Option Nat) (data : List Byte) (deadline : Time) (s : State) :
    SameGates s (place origin l h cfg op index length data deadline s) := by
  obtain ⟨ts, eq⟩ := place_eq origin l h cfg op index length data deadline s
  rw [eq]
  exact ⟨rfl, rfl, rfl, rfl⟩

theorem admits_unprobe (h x : Handle) (s : State) : (unprobe h s).admits x ↔ s.admits x := by
  have session : (unprobe h s).session = s.session := by
    rw [unprobe]
    split
    · exact setRuntime_session ..
    · rfl
  rw [State.admits, State.admits, State.commitPending, State.commitPending, session, record?_unprobe]
  refine and_congr_left fun _ => ?_
  split
  · next same =>
    rw [same]
    cases s.record? h with
    | none => simp
    | some r => simp [Health.isActive_unprobed]
  · rfl

/-- No member may be placed on the records of these handles, and what is queued on them is one of these transactions. -/
structure State.Drains (B : Handle → Prop) (ts : List Txn) (s : State) : Prop where
  barred : ∀ h, B h → ¬ s.admits h
  queued : ∀ x ∈ s.pool, B x.handle → s.isActive x = true ∨ x ∈ ts

section
variable {B : Handle → Prop} {ts : List Txn} {s t : State}

theorem State.Drains.congr (d : s.Drains B ts) (gates : SameGates s t)
    (pool : ∀ x ∈ t.pool, x ∈ s.pool ∨ s.admits x.handle) : t.Drains B ts := by
  refine ⟨fun h hb admitted => d.barred h hb ((gates.admits h).mp admitted), fun x hx hb => ?_⟩
  rw [gates.isActive]
  rcases pool x hx with old | admitted
  · exact d.queued x old hb
  · exact absurd admitted (d.barred _ hb)

theorem pool_place (origin : Origin) (l : Link) (h : Handle) (cfg : EndpointConfig) (op : Operation)
    (index : Option (BitVec 24)) (length : Option Nat) (data : List Byte) (deadline : Time) :
    ∀ x ∈ (place origin l h cfg op index length data deadline s).pool, x ∈ s.pool ∨ x.handle = h := by
  intro x hx
  rw [place] at hx
  split at hx
  · exact .inl hx
  · rcases List.mem_append.mp hx with old | new
    · exact .inl old
    · rw [List.mem_singleton] at new
      exact .inr (by rw [new])

theorem State.Drains.unprobe (d : s.Drains B ts) (h : Handle) : (unprobe h s).Drains B ts := by
  refine ⟨fun x hb admitted => d.barred x hb ((admits_unprobe h x s).mp admitted), fun x hx hb => ?_⟩
  rw [(sameOwed_unprobe h s).pool] at hx
  rw [State.isActive, State.engine, (flow_unprobe h s).engines]
  exact d.queued x hx hb

theorem keptRemoval_drains (B : Handle → Prop) (ts : List Txn) : KeptRemoval fun s => s.Drains B ts where
  waiting _ d := d.congr ⟨rfl, rfl, rfl, rfl⟩ fun _ hx => .inl hx
  setContext _ _ _ d := d.congr ⟨rfl, rfl, rfl, rfl⟩ fun _ hx => .inl hx
  closeContext _ _ d :=
    (d.congr (sameGates_respond ..) fun x hx => .inl (by rwa [respond_pool] at hx)).congr ⟨rfl, rfl, rfl, rfl⟩
      fun _ hx => .inl hx
  placeMember _ _ _ _ _ _ _ _ _ _ _ admitted d := d.congr (sameGates_place ..) fun x hx => by
    rcases pool_place _ _ _ _ _ _ _ _ _ x hx with old | same
    · exact .inl old
    · exact .inr (same ▸ admitted)
  dropSlot _ d := d.congr ⟨rfl, rfl, rfl, rfl⟩ fun _ hx => .inl (List.mem_of_mem_filter hx)
  respond _ _ _ _ d := d.congr (sameGates_respond ..) fun x hx => .inl (by rwa [respond_pool] at hx)
  raise _ _ _ d := d.congr ⟨rfl, rfl, rfl, rfl⟩ fun _ hx => .inl hx
  unprobe h d := d.unprobe h

/-- A removal leaves nothing of the removed transaction. -/
theorem State.Drains.removeQueued {t : Txn} (d : s.Drains B (t :: ts)) (o : Status) :
    (removeQueued t (some o) s).Drains B ts := by
  have k := keptRemoval_drains B ts
  have freed : ∀ u : State, u.Drains B (t :: ts) → (u.withoutSlot t.slot).Drains B ts := fun u du => by
    refine ⟨fun h hb admitted => du.barred h hb admitted, fun x hx hb => ?_⟩
    obtain ⟨old, other⟩ := List.mem_filter.mp hx
    rcases du.queued x old hb with active | listed
    · exact .inl active
    · rcases List.mem_cons.mp listed with rfl | rest
      · exact absurd rfl (of_decide_eq_true other)
      · exact .inr rest
  rw [Machine.removeQueued]
  refine k.deliver t o [] (k.handOut (freed _ ?_))
  split
  · exact d.unprobe _
  · exact d

/-- So the removal of all that is queued on the records leaves nothing queued on them (R57, R109). -/
theorem State.Drains.removeAll (o : Status) : ∀ {ts : List Txn} {s : State}, s.Drains B ts →
    (removeAll ts (some o) s).Drains B [] := by
  intro ts
  induction ts with
  | nil => exact fun d => d
  | cons t rest ih =>
    intro s d
    change (Machine.removeAll rest (some o) (if t ∈ s.pool then Machine.removeQueued t (some o) s else s)).Drains B []
    refine ih ?_
    split
    · exact d.removeQueued o
    · next gone =>
      refine ⟨d.barred, fun x hx hb => (d.queued x hx hb).imp_right fun listed => ?_⟩
      exact (List.mem_cons.mp listed).resolve_left fun same => gone (same ▸ hx)

end

/-- A record that is not PROBING is kept by removals. -/
theorem keptRemoval_record {h : Handle} {r : Record} (plain : r.runtime.health.unprobed = r.runtime.health) :
    KeptRemoval fun s => s.record? h = some r where
  waiting _ d := d
  setContext _ _ _ d := d
  closeContext _ _ d := ((sameGates_respond ..).record? _).trans d
  placeMember _ _ _ _ _ _ _ _ _ _ _ _ d := ((sameGates_place ..).record? _).trans d
  dropSlot _ d := d
  respond _ _ _ _ d := ((sameGates_respond ..).record? _).trans d
  raise _ _ _ d := d
  unprobe x d := by
    rw [record?_unprobe]
    split
    · next same => rw [← same, d, Option.map_some, plain]
    · exact d

/-! ### The quarantine entry -/

theorem sameGates_revokeReservation (h : Handle) (s : State) : SameGates s (revokeReservation h s) := by
  rw [revokeReservation]
  split <;> exact ⟨rfl, rfl, rfl, rfl⟩

theorem pool_revokeReservation (h : Handle) (s : State) : (revokeReservation h s).pool = s.pool := by
  rw [revokeReservation]
  split <;> rfl

theorem reservation?_removeReservation (h : Handle) (s : State) : (removeReservation h s).reservation? h = none := by
  refine List.find?_eq_none.mpr fun x hx => ?_
  simpa using (List.mem_filter.mp hx).2

theorem reservation?_revokeReservation (h : Handle) (s : State) : (revokeReservation h s).reservation? h = none := by
  rw [revokeReservation]
  split
  · exact reservation?_removeReservation h s
  · next none => exact none

/-- A raise on both links leaves its subject on each (R174). -/
theorem attention_raiseBoth (k : AttentionKind) (x : Subject) (m : Link) (s : State) :
    (((raiseBoth k x s).link m).attention.find k.num).map AttentionEntry.subject = some x := by
  have subject (e : Option AttentionEntry) : (AttentionEntry.raised e x).subject = x := by cases e <;> rfl
  rw [raiseBoth, link_raise]
  split
  · rw [Table.find_put_self, Option.map_some, subject]
  · next other =>
    have a : m = .a := by cases m <;> simp_all
    rw [link_raise, if_pos a, Table.find_put_self, Option.map_some, subject]

/-- What a quarantine entry leaves: the record with its cause, nothing queued on it, no reservation, and both links told
(R109). -/
theorem quarantineEntry_leaves {s : State} {h : Handle} {r : Record} (cause : QuarantineCause)
    (hr : s.record? h = some r) :
    (quarantineEntry h cause s).record? h = some (r.withHealth (.quarantined cause)) ∧
    (quarantineEntry h cause s).reservation? h = none ∧
    (∀ x ∈ (quarantineEntry h cause s).pool, x.handle = h → (quarantineEntry h cause s).isActive x = true) ∧
    ∀ m, (((quarantineEntry h cause s).link m).attention.find 5).map AttentionEntry.subject = some (.handle h) := by
  obtain ⟨q, hq⟩ : ∃ q, q = setQuarantined h cause s := ⟨_, rfl⟩
  have record : q.record? h = some (r.withHealth (.quarantined cause)) := by
    rw [hq, setQuarantined, hr]
    exact record?_setRuntime_self hr _
  have drains : q.Drains (· = h) (q.queuedOn h) := by
    refine ⟨fun x same ⟨⟨r', found, active⟩, _⟩ => ?_, fun x hx same => ?_⟩
    · rw [same, record] at found
      cases found
      cases active
    · cases active : q.isActive x
      · exact .inr (List.mem_filter.mpr ⟨hx, by simp [active, same]⟩)
      · exact .inl rfl
  obtain ⟨u, hu⟩ : ∃ u, u = removeAll (q.queuedOn h) (some .cancelledQuarantine) q := ⟨_, rfl⟩
  have left : u.Drains (· = h) [] := hu ▸ drains.removeAll _
  have kept : u.record? h = some (r.withHealth (.quarantined cause)) :=
    hu ▸ (keptRemoval_record rfl).removeAll _ _ record
  have entry : quarantineEntry h cause s = raiseBoth .quarantineEntered (.handle h) (revokeReservation h u) := by
    rw [hu, hq]
    rfl
  rw [entry]
  have gates := sameGates_revokeReservation h u
  refine ⟨(gates.record? h).trans kept, reservation?_revokeReservation h u, fun x hx same => ?_,
    fun m => attention_raiseBoth _ _ m _⟩
  have pooled : x ∈ u.pool := by
    have there : x ∈ (revokeReservation h u).pool := hx
    rwa [pool_revokeReservation] at there
  exact (gates.isActive x).trans ((left.queued x pooled same).resolve_right List.not_mem_nil)

theorem commitPending_quarantineEntry (h x : Handle) (cause : QuarantineCause) (s : State) :
    (quarantineEntry h cause s).commitPending x = s.commitPending x := by
  have same := (keptQueue_sameViews s).quarantineEntry h cause (.refl s)
  rw [State.commitPending, same.session, State.commitPending]

/-! ### The end of a command -/

/-- The arbiters that run at the end of a command leave an ACTIVE transaction ACTIVE, and everything but engines. -/
theorem isActive_settle {told : List Port} {before s : State} {x : Txn} (h : s.isActive x = true) :
    (settle told before s).isActive x = true := by
  have settled := settled_settle told before s
  have slot : (s.engine x.snapshot.port).activeSlot? = some x.slot := of_decide_eq_true h
  have busy : (s.engine x.snapshot.port).work.isSome = true := by
    cases work : (s.engine x.snapshot.port).work with
    | none => simp [Engine.activeSlot?, work] at slot
    | some w => rfl
  rw [State.isActive, settled.busy _ busy]
  exact h

/-! ### QUARANTINE and CLEAR_SCORE -/

theorem outstanding_of_owes {s : State} {l : Link} {tag : Tag} {hand : List Tag} (h : s.Owes l (tag :: hand)) :
    tag ∈ (s.link l).outstanding := by
  have count := h.count tag
  rw [List.count_cons_self] at count
  exact List.count_pos_iff.mp (by omega)

theorem reservation?_respond (l : Link) (tag : Tag) (o : Status) (d : List Byte) (h : Handle) (s : State) :
    (respond l tag o d s).reservation? h = s.reservation? h := by
  rw [State.reservation?, respond_reservations, State.reservation?]

theorem owes_accepted {s : State} (h : s.tagsOwed) (l : Link) (tag : Tag) (ps : List Byte) :
    (s.accepted l tag ps).Owes l [tag] := by
  obtain ⟨_, owes⟩ := tagsOwed_iff.mp h
  have held := (owes l).withTag (l := l) (tag := tag)
    (i := { s.link l with outstanding := (s.link l).outstanding ++ [tag], sent := putOut l ps }) rfl
  rwa [tagFor, if_pos rfl, List.append_nil] at held

theorem answerQuarantine_record {s : State} {h : Handle} {r : Record} (l : Link) (tag : Tag)
    (hr : s.record? h = some r) :
    answerQuarantine l tag h s = respond l tag .ok [byteOf r.runtime.health.causeNum, byteOf r.runtime.score] s := by
  rw [answerQuarantine, hr]

theorem accessRefusal_readable (l : Link) (tag : Tag) (r : Record) (take : State → State) (s : State) :
    unlessRefused l tag (accessRefusal l r) take s =
      if r.config.readable l = false then answer l tag .accessDenied s else take s := by
  rw [accessRefusal]
  cases r.config.readable l <;> rfl

theorem exec_quarantine_record {l : Link} {tag : Tag} {ps : List Byte} {h : Handle} {r : Record} {s : State}
    (ha : s.accepts l tag ps) (read : handleBlock? ps = some h) (hr : s.record? h = some r) :
    exec (.quarantine l tag ps) s = .next (if r.config.readable l = false then s.answered l tag ps .accessDenied []
      else quarantineRecord l tag h r (s.accepted l tag ps)) := by
  rw [exec_quarantine ha, takeQuarantine, withBlock_some _ _ read, withRecord_some (s := s.accepted l tag ps) _ hr,
    accessRefusal_readable, answer_accepted _ ha]

/-- The entry that an operator asks for (R110, R111). -/
theorem operatorEntry_leaves {l : Link} {tag : Tag} {ps : List Byte} {h : Handle} {r : Record} {s : State}
    (hr : s.record? h = some r) (pending : s.commitPending h = false) (owed : s.tagsOwed) :
    ∃ t, operatorEntry l tag h (s.accepted l tag ps) = t ∧
      t.record? h = some (r.withHealth (.quarantined .operator)) ∧ t.reservation? h = none ∧
      (∀ x ∈ t.pool, x.handle = h → t.isActive x = true) ∧
      (t.link l).queue.getLast? = some (Response.mk tag .ok [2, byteOf r.runtime.score]) ∧
      ∀ m, ((t.link m).attention.find 5).map AttentionEntry.subject = some (.handle h) := by
  obtain ⟨u, hu⟩ : ∃ u, u = quarantineEntry h .operator (s.accepted l tag ps) := ⟨_, rfl⟩
  obtain ⟨record, reservation, active, told⟩ := quarantineEntry_leaves (s := s.accepted l tag ps) .operator hr
  rw [← hu] at record reservation active told
  have examined : examine [h] u = u := examine_skip (by rw [hu, commitPending_quarantineEntry]; exact pending)
  have held : tag ∈ (u.link l).outstanding := by
    refine outstanding_of_owes (hand := []) ?_
    rw [hu]
    exact (keptQueue_owes l [tag]).quarantineEntry h .operator (owes_accepted owed l tag ps)
  obtain ⟨es, settled⟩ := (settled_settle [] (s.accepted l tag ps) (respond l tag .ok
    [byteOf (r.withHealth (.quarantined .operator)).runtime.health.causeNum, byteOf r.runtime.score] u)).rest
  have entry : operatorEntry l tag h (s.accepted l tag ps) = settle [] (s.accepted l tag ps) (respond l tag .ok
      [byteOf (r.withHealth (.quarantined .operator)).runtime.health.causeNum, byteOf r.runtime.score] u) := by
    rw [operatorEntry, ← hu, examined, answerQuarantine_record l tag record]
    rfl
  refine ⟨_, entry, ?_, ?_, fun x hx same => isActive_settle ?_, ?_, fun m => ?_⟩
  · rw [settled]
    exact ((sameGates_respond ..).record? h).trans record
  · rw [settled]
    exact (reservation?_respond ..).trans reservation
  · rw [(sameGates_respond ..).isActive]
    refine active x ?_ same
    rw [settled] at hx
    exact (respond_pool l tag .ok _ u) ▸ hx
  · rw [settled, respond_outstanding _ _ _ _ _ held]
    change (((u.setLink l _).link l).queue.getLast?) = _
    rw [State.link_setLink_self]
    exact List.getLast?_concat
  · rw [settled, respond_outstanding _ _ _ _ _ held]
    change (((u.setLink l _).link m).attention.find 5).map _ = _
    rw [State.link_setLink]
    split
    · next same => exact same ▸ told m
    · exact told m

/-- Settles O29: by the checks of the two requests, and by what a quarantine entry leaves. -/
theorem quarantineAndClearScore : Obligations.QuarantineAndClearScore := by
  refine ⟨fun l tag ps h s ha read => ?_, fun l tag ps h s ha read => ⟨fun hr => ?_, fun r hr => ⟨fun denied => ?_,
    fun readable => ⟨fun cause health => ?_, fun cause health => ?_, fun active pending => ?_,
      fun active pending owed => ?_⟩⟩⟩⟩
  · rw [exec_clearScore ha, takeClearScore, withBlock_some _ _ read]
    refine congrArg Host.Outcome.next ?_
    cases hr : s.record? h with
    | none => exact (withRecord_none (s := s.accepted l tag ps) _ hr).trans (answer_accepted _ ha)
    | some r =>
      refine (withRecord_some (s := s.accepted l tag ps) _ hr).trans ?_
      rw [accessRefusal_readable, answer_accepted _ ha]
      refine if_congr Iff.rfl rfl ?_
      by_cases active : r.runtime.health = .active
      · rw [if_neg (not_not.mpr active), clearScore, (Health.isActive_iff _).mpr active,
          setRuntime_record (s := s.accepted l tag ps) hr]
        exact respond_accepted (s := { s with records := s.records.put h.slot (r.withScore 0) }) _ _ ha
      · rw [if_pos active, clearScore, (Health.isActive_eq_false _).mpr active]
        exact answer_accepted _ ha
  · rw [exec_quarantine ha, takeQuarantine, withBlock_some _ _ read]
    exact congrArg Host.Outcome.next ((withRecord_none (s := s.accepted l tag ps) _ hr).trans (answer_accepted _ ha))
  · rw [exec_quarantine_record ha read hr, if_pos denied]
  all_goals rw [exec_quarantine_record ha read hr, if_neg (by simp [readable]), quarantineRecord]
  · rw [health]
    exact congrArg Host.Outcome.next (answer_accepted _ ha)
  · rw [health]
    dsimp only
    rw [answerQuarantine_record (s := s.accepted l tag ps) l tag hr, respond_accepted _ _ ha, health]
    rfl
  · have pending' : (s.accepted l tag ps).commitPending h = true := pending
    rw [active]
    dsimp only
    rw [if_pos pending', answer_accepted _ ha]
  · have pending' : ¬ (s.accepted l tag ps).commitPending h = true := by
      rw [show (s.accepted l tag ps).commitPending h = s.commitPending h from rfl, pending]
      exact Bool.false_ne_true
    rw [active]
    dsimp only
    rw [if_neg pending']
    obtain ⟨t, entry, left⟩ := operatorEntry_leaves (l := l) (tag := tag) (ps := ps) hr pending owed
    exact ⟨t, congrArg _ entry, left⟩

end Sys2Proof.Machine
end

section
/-! SUPPORT. Reservations, and the record that reaches its threshold (R97, R107, R137 to R145). -/
namespace Sys2Proof.Machine

/-! ### Reservations -/

theorem reservedAgainst_some {s : State} {h : Handle} {x : Reservation} (l : Link) (found : s.reservation? h = some x) :
    s.reservedAgainst h l = decide (x.holder ≠ l) := by
  rw [State.reservedAgainst, found]

theorem reservedAgainst_none {s : State} {h : Handle} (l : Link) (none_ : s.reservation? h = none) :
    s.reservedAgainst h l = false := by
  rw [State.reservedAgainst, none_]

theorem exec_reserve_record {l : Link} {tag : Tag} {ps : List Byte} {h : Handle} {d : Nat} {r : Record} {s : State}
    (ha : s.accepts l tag ps) (read : reserveBlock? ps = some (h, d)) (hr : s.record? h = some r) :
    exec (.reserve l tag ps) s = .next (
      if r.config.readable l = false then s.answered l tag ps .accessDenied []
      else if r.runtime.health ≠ .active then s.answered l tag ps .quarantined []
      else if s.commitPending h = true then s.answered l tag ps .commitPending []
      else if s.reservedAgainst h l = true then s.answered l tag ps .reserved []
      else reserveRecord l tag h d (s.accepted l tag ps)) := by
  rw [exec_reserve ha, takeReserve, withBlock_some _ _ read]
  refine congrArg Host.Outcome.next ((withRecord_some (s := s.accepted l tag ps) _ hr).trans ?_)
  simp only [reserveRefusal, unlessRefused_ite, unlessRefused_none, answer_accepted _ ha]
  exact if_congr Iff.rfl rfl (if_congr (Health.isActive_eq_false _) rfl rfl)

theorem exec_unreserve_record {l : Link} {tag : Tag} {ps : List Byte} {h : Handle} {r : Record} {s : State}
    (ha : s.accepts l tag ps) (read : handleBlock? ps = some h) (hr : s.record? h = some r) :
    exec (.unreserve l tag ps) s = .next (if r.config.readable l = false then s.answered l tag ps .accessDenied []
      else unreserveRecord l tag h (s.accepted l tag ps)) := by
  rw [exec_unreserve ha, takeUnreserve, withBlock_some _ _ read, withRecord_some (s := s.accepted l tag ps) _ hr,
    accessRefusal_readable, answer_accepted _ ha]

/-- Settles O31: by the checks of the two requests; a change of the table of reservations and the acceptance of a
request meet in either order. -/
theorem reservations : Obligations.Reservations := by
  refine ⟨fun l tag ps h d s ha read => ?_, fun l tag ps h s ha read pending => ?_, fun h x s found pending => ?_,
    fun h s none_ => ?_⟩
  · cases hr : s.record? h with
    | none =>
      rw [exec_reserve ha, takeReserve, withBlock_some _ _ read]
      exact congrArg Host.Outcome.next ((withRecord_none (s := s.accepted l tag ps) _ hr).trans (answer_accepted _ ha))
    | some r =>
      rw [exec_reserve_record ha read hr]
      refine congrArg Host.Outcome.next (if_congr Iff.rfl rfl (if_congr Iff.rfl rfl (if_congr Iff.rfl rfl ?_)))
      cases found : s.reservation? h with
      | none =>
        have found' : (s.accepted l tag ps).reservation? h = none := found
        rw [reservedAgainst_none l found, if_neg Bool.false_ne_true, reserveRecord, found']
        dsimp only
        rw [if_neg (by simp)]
        have room : (s.accepted l tag ps).reservations.length < Config.reservationEntries ↔
            ¬ 16 ≤ s.reservations.length :=
          Nat.not_le.symm
        by_cases full : 16 ≤ s.reservations.length
        · rw [if_neg (mt room.mp (not_not.mpr full)), if_pos full, answer_accepted _ ha]
        · rw [if_pos (room.mpr full), if_neg full]
          exact respond_accepted
            (s := { s with reservations := s.reservations ++ [Reservation.mk h l (s.after d)] }) _ _ ha
      | some x =>
        have found' : (s.accepted l tag ps).reservation? h = some x := found
        rw [reservedAgainst_some l found]
        refine if_congr decide_eq_true_iff rfl ?_
        rw [reserveRecord, found']
        exact respond_accepted (s := moveExpiry h (s.after d) s) _ _ ha
  · cases hr : s.record? h with
    | none =>
      rw [exec_unreserve ha, takeUnreserve, withBlock_some _ _ read]
      exact congrArg Host.Outcome.next ((withRecord_none (s := s.accepted l tag ps) _ hr).trans (answer_accepted _ ha))
    | some r =>
      rw [exec_unreserve_record ha read hr]
      refine congrArg Host.Outcome.next (if_congr Iff.rfl rfl ?_)
      unfold unreserveRecord
      cases found : s.reservation? h with
      | none =>
        have found' : (s.accepted l tag ps).reservation? h = none := found
        rw [found']
        exact answer_accepted _ ha
      | some x =>
        have found' : (s.accepted l tag ps).reservation? h = some x := found
        rw [found']
        dsimp only
        by_cases holder : x.holder = l
        · rw [if_pos holder, if_neg (not_not.mpr holder),
            examine_skip (s := removeReservation h (s.accepted l tag ps)) pending]
          have answered := respond_accepted (s := removeReservation h s) (l := l) (tag := tag) (ps := ps) .ok
            (wordOf ((s.accepted l tag ps).remaining x.expiry)) ha
          exact (congrArg (settle [] _) answered).trans (settle_unchanged rfl rfl fun _ => rfl)
        · rw [if_neg holder, if_pos holder, answer_accepted _ ha]
  · refine congrArg Host.Outcome.next ?_
    rw [expireReservation, found]
    dsimp only
    rw [examine_skip (by exact pending)]
    exact settle_unchanged rfl rfl fun _ => rfl
  · refine congrArg Host.Outcome.next ?_
    rw [expireReservation, none_]

end Sys2Proof.Machine
end

section
/-! SUPPORT. The ends of release probes and of transactions whose record reaches its threshold (R97, R107, R114 to
R116). -/
namespace Sys2Proof.Machine

/-! ### What leaves the work of a port as it is -/

/-- The states agree on the work of a port and on what its end reads and writes, but for attention sets, lines, units
and the clock. -/
structure SameWork (p : Port) (s t : State) : Prop where
  slot : (t.engine p).activeSlot? = (s.engine p).activeSlot?
  pool : t.pool = s.pool
  records : t.records = s.records
  generations : t.generations = s.generations
  waiting : t.waiting = s.waiting
  session : t.session = s.session
  outstanding : ∀ l, (t.link l).outstanding = (s.link l).outstanding
  queue : ∀ l, (t.link l).queue = (s.link l).queue

section
variable {p : Port} {s t : State}

theorem SameWork.refl (p : Port) (s : State) : SameWork p s s :=
  ⟨rfl, rfl, rfl, rfl, rfl, rfl, fun _ => rfl, fun _ => rfl⟩

theorem SameWork.trans {u : State} (h : SameWork p s t) (g : SameWork p t u) : SameWork p s u :=
  ⟨g.slot.trans h.slot, g.pool.trans h.pool, g.records.trans h.records, g.generations.trans h.generations,
    g.waiting.trans h.waiting, g.session.trans h.session, fun l => (g.outstanding l).trans (h.outstanding l),
    fun l => (g.queue l).trans (h.queue l)⟩

theorem SameWork.activeTxn? (h : SameWork p s t) : t.activeTxn? p = s.activeTxn? p := by
  have txns : t.txn? = s.txn? := by
    funext n
    rw [State.txn?, State.txn?, h.pool]
  rw [State.activeTxn?, State.activeTxn?, h.slot, txns]

theorem SameWork.record? (h : SameWork p s t) (x : Handle) : t.record? x = s.record? x :=
  record_congr x h.records h.generations

theorem SameWork.quiet {x : Handle} (h : SameWork p s t) (quiet : s.quiet x) : t.quiet x :=
  ⟨h.waiting.trans quiet.1, by rw [State.commitPending, h.session]; exact quiet.2⟩

theorem SameWork.held {l : Link} {tag : Tag} (h : SameWork p s t) (held : tag ∈ (s.link l).outstanding) :
    tag ∈ (t.link l).outstanding := by
  rw [h.outstanding]
  exact held

theorem sameWork_raise (l : Link) (k : AttentionKind) (x : Subject) (s : State) : SameWork p s (raise l k x s) := by
  refine ⟨rfl, rfl, rfl, rfl, rfl, rfl, fun m => ?_, fun m => ?_⟩
  all_goals
    rw [link_raise]
    split
    · next same => rw [same]
    · rfl

theorem keptUnits_sameWork (p : Port) (s : State) : KeptUnits (SameWork p s) where
  setUnit _ _ h := h.trans ⟨rfl, rfl, rfl, rfl, rfl, rfl, fun _ => rfl, fun _ => rfl⟩
  raise _ _ _ h := h.trans (sameWork_raise ..)

theorem sameWork_putLines (q : Port) (a b c : Bool) (s : State) : SameWork p s (putLines q a b c s) :=
  ⟨rfl, rfl, rfl, rfl, rfl, rfl, fun _ => rfl, fun _ => rfl⟩

theorem sameWork_setEngine {e : Engine} (h : e.activeSlot? = (s.engine p).activeSlot?) :
    SameWork p s (s.setEngine p e) := by
  refine ⟨?_, rfl, rfl, rfl, rfl, rfl, fun _ => rfl, fun _ => rfl⟩
  rw [State.engine_setEngine_self]
  exact h

theorem sameWork_upTo (e : Time) (s : State) : SameWork p s (s.upTo e) :=
  ⟨rfl, rfl, rfl, rfl, rfl, rfl, fun _ => rfl, fun _ => rfl⟩

theorem sameWork_endPhase (p : Port) (s : State) : SameWork p s (endPhase p s) :=
  (sameWork_setEngine (e := { s.engine p with phase := none }) rfl).trans
    ((sameWork_putLines ..).trans (sameWork_putLines ..))

theorem sameWork_yieldBus (p : Port) (s : State) : SameWork p s (yieldBus p s) :=
  (sameWork_setEngine (e := { s.engine p with phase := none, since := s.now }) rfl).trans (sameWork_putLines ..)

theorem sameWork_holdClock (p : Port) (s : State) : SameWork p s (holdClock p s) :=
  (sameWork_putLines ..).trans (sameWork_upTo ..)

end

/-! ### A completion that touches nothing else -/

theorem commitPending_deliver (x : Handle) (t : Txn) (o : Status) (d : List Byte) (s : State) :
    (deliver t o d s).commitPending x = s.commitPending x := by
  have same := (keptRemoval_sameViews s).deliver t o d (.refl s)
  rw [State.commitPending, same.session, State.commitPending]

/-- The state in which the outcome of a completion is delivered, where no member waits (R59). -/
def State.reportedEnd (s : State) (p : Port) (t : Txn) (r : Record) (o : Status) : State :=
  { (s.withoutSlot t.slot).setEngine p ((s.engine p).afterOutcome o s.now) with
    records := s.records.put t.handle.slot { r with runtime := reported s t o r } }

theorem complete_quiet {s : State} {p : Port} {t : Txn} {r : Record} (o : Status) (d : List Byte)
    (active : s.activeTxn? p = some t) (hr : s.record? t.handle = some r) (quiet : s.quiet t.handle)
    (due : entryDue s t o = false) : complete p o d s = deliver t o d (s.reportedEnd p t r o) := by
  have ended : reportHealth t o (s.setEngine p ((s.engine p).afterOutcome o s.now)) =
      { s.setEngine p ((s.engine p).afterOutcome o s.now) with
        records := s.records.put t.handle.slot { r with runtime := reported s t o r } } := by
    have hr' : (s.setEngine p ((s.engine p).afterOutcome o s.now)).record? t.handle = some r := hr
    rw [reportHealth, hr']
    exact setRuntime_record hr' _
  have freed : freeSlot t.slot { s.setEngine p ((s.engine p).afterOutcome o s.now) with
      records := s.records.put t.handle.slot { r with runtime := reported s t o r } } = s.reportedEnd p t r o :=
    freeSlot_none _ quiet.1
  rw [complete, active]
  dsimp only
  rw [due, ended, freed, followUp, if_neg Bool.false_ne_true, examine_skip]
  rw [commitPending_deliver]
  exact quiet.2

/-! ### Release probes -/

theorem entryDue_of_probe {s : State} {t : Txn} (o : Status) (probe : t.origin.isProbe = true) :
    entryDue s t o = false := by
  rw [entryDue]
  split
  · simp [probe]
  · rfl

/-- The record of a probe whose outcome is not OK (R115). -/
theorem reported_failed {s : State} {t : Txn} {o : Status} {r : Record} {cause : QuarantineCause}
    (probe : t.origin.isProbe = true) (health : r.runtime.health = .probing cause) (failed : o ≠ .ok) :
    ({ r with runtime := reported s t o r } : Record) = r.withHealth (.quarantined cause) := by
  rw [reported, if_pos probe, if_neg failed, health]
  rfl

/-- The record of an OK probe (R114). -/
theorem reported_released {s : State} {t : Txn} {r : Record} (probe : t.origin.isProbe = true) :
    ({ r with runtime := reported s t .ok r } : Record) = (r.withHealth .active).withScore 0 := by
  rw [reported, if_pos probe, if_pos rfl]
  rfl

section
variable {s : State} {p : Port} {t : Txn} {l : Link} {tag : Tag} {r : Record} {cause : QuarantineCause}

/-- A probe that a link waits for is answered with its outcome; the other link is told of a release (R114, R115). -/
theorem deliver_probe (origin : t.origin = .releaseProbe l tag) (waits : t.orphan = false)
    (held : tag ∈ (s.link l).outstanding) (o : Status) (d : List Byte) (r : Record) :
    deliver t o d (s.reportedEnd p t r o) =
      if o = .ok then raise l.other .quarantineReleased (.handle t.handle)
        ((s.completed p t l tag { r with runtime := reported s t o r } o []).setEngine p
          ((s.engine p).afterOutcome o s.now))
      else (s.completed p t l tag { r with runtime := reported s t o r } o []).setEngine p
        ((s.engine p).afterOutcome o s.now) := by
  have answered : respond l tag o (t.payload []) (s.reportedEnd p t r o) =
      (s.completed p t l tag { r with runtime := reported s t o r } o []).setEngine p
        ((s.engine p).afterOutcome o s.now) := by
    rw [respond_outstanding _ _ _ _ _ (by exact held)]
    simp only [State.completed, State.setEngine, State.withoutSlot, State.setLink, State.reportedEnd, PerPort.set_set]
    rfl
  rw [deliver, waits, deliverTo, origin]
  dsimp only
  rw [answered]
  rfl

theorem complete_probe (active : s.activeTxn? p = some t) (origin : t.origin = .releaseProbe l tag)
    (waits : t.orphan = false) (held : tag ∈ (s.link l).outstanding) (hr : s.record? t.handle = some r)
    (quiet : s.quiet t.handle) (o : Status) (d : List Byte) :
    complete p o d s =
      if o = .ok then raise l.other .quarantineReleased (.handle t.handle)
        ((s.completed p t l tag { r with runtime := reported s t o r } o []).setEngine p
          ((s.engine p).afterOutcome o s.now))
      else (s.completed p t l tag { r with runtime := reported s t o r } o []).setEngine p
        ((s.engine p).afterOutcome o s.now) := by
  rw [complete_quiet o d active hr quiet (entryDue_of_probe o (by rw [origin]; rfl)),
    deliver_probe origin waits held]

/-- The end of a phase with an OK probe (R114). -/
theorem complete_released (active : s.activeTxn? p = some t) (origin : t.origin = .releaseProbe l tag)
    (waits : t.orphan = false) (held : tag ∈ (s.link l).outstanding) (hr : s.record? t.handle = some r)
    (quiet : s.quiet t.handle) (d : List Byte) :
    complete p .ok d (endPhase p s) = raise l.other .quarantineReleased (.handle t.handle)
      ((releaseLines p s).completed p t l tag ((r.withHealth .active).withScore 0) .ok []) := by
  have same := sameWork_endPhase p s
  rw [complete_probe (same.activeTxn?.trans active) origin waits (same.held held)
    ((same.record? _).trans hr) (same.quiet quiet), if_pos rfl, reported_released (by rw [origin]; rfl),
    Engine.afterOutcome_plain (by decide) (by decide), completed_atRest, completed_endPhase]

/-- The end of a phase with a probe that fails, but for BUS_STUCK and SEGMENT_FAULT (R115). -/
theorem complete_failed (active : s.activeTxn? p = some t) (origin : t.origin = .releaseProbe l tag)
    (waits : t.orphan = false) (held : tag ∈ (s.link l).outstanding) (hr : s.record? t.handle = some r)
    (health : r.runtime.health = .probing cause) (quiet : s.quiet t.handle) {o : Status} (failed : o ≠ .ok)
    (plain : o ≠ .busStuck) (plain' : o ≠ .segmentFault) :
    complete p o [] (endPhase p s) =
      (releaseLines p s).completed p t l tag (r.withHealth (.quarantined cause)) o [] := by
  have same := sameWork_endPhase p s
  rw [complete_probe (same.activeTxn?.trans active) origin waits (same.held held)
    ((same.record? _).trans hr) (same.quiet quiet), if_neg failed, reported_failed (by rw [origin]; rfl) health failed,
    Engine.afterOutcome_plain plain plain', completed_atRest, completed_endPhase]

/-- What a failed probe leaves, whatever event it failed at (R115). -/
theorem probe_fails {u : State} (active : s.activeTxn? p = some t) (origin : t.origin = .releaseProbe l tag)
    (waits : t.orphan = false) (held : tag ∈ (s.link l).outstanding) (hr : s.record? t.handle = some r)
    (health : r.runtime.health = .probing cause) (quiet : s.quiet t.handle) {o : Status} (failed : o ≠ .ok)
    (same : SameWork p s u) (told : List Port) (before : State) :
    (settle told before (complete p o [] u)).record? t.handle = some (r.withHealth (.quarantined cause)) ∧
      ((settle told before (complete p o [] u)).link l).queue =
        (s.link l).queue ++ [Response.mk tag o (t.result [])] ∧
      (settle told before (complete p o [] u)).pool = s.pool.filter fun x => decide (x.slot ≠ t.slot) := by
  obtain ⟨es, settled⟩ := (settled_settle told before (complete p o [] u)).rest
  have current : u.generation t.handle.slot = t.handle.gen := by
    by_contra stale
    have found := (same.record? t.handle).trans hr
    rw [State.record?, if_neg stale] at found
    cases found
  rw [settled, complete_probe (same.activeTxn?.trans active) origin waits (same.held held)
    ((same.record? _).trans hr) (same.quiet quiet), if_neg failed, reported_failed (by rw [origin]; rfl) health failed]
  refine ⟨?_, ?_, ?_⟩
  · change (if u.generation t.handle.slot = t.handle.gen then (u.records.put t.handle.slot _).find t.handle.slot
      else none) = _
    rw [if_pos current, Table.find_put_self]
  · change ((u.links.set l { u.link l with
      outstanding := (u.link l).outstanding.erase tag
      queue := (u.link l).queue ++ [Response.mk tag o (t.result [])] }).get l).queue = _
    rw [PerLink.get_set_self, same.queue]
  · change (u.pool.filter fun x => decide (x.slot ≠ t.slot)) = _
    rw [same.pool]

/-- An orphan probe is not answered; both links are told of a release (R116). -/
theorem complete_orphan (active : s.activeTxn? p = some t) (probe : t.origin.isProbe = true) (orphan : t.orphan = true)
    (hr : s.record? t.handle = some r) (quiet : s.quiet t.handle) {o : Status} (d : List Byte) (plain : o ≠ .busStuck)
    (plain' : o ≠ .segmentFault) :
    complete p o d (endPhase p s) =
      if o = .ok then raiseBoth .quarantineReleased (.handle t.handle)
        ((releaseLines p s).ended p t { r with runtime := reported s t o r })
      else (releaseLines p s).ended p t { r with runtime := reported s t o r } := by
  have same := sameWork_endPhase p s
  have rest : (endPhase p s).reportedEnd p t r o =
      (releaseLines p s).ended p t { r with runtime := reported s t o r } := by
    have runtime : reported (endPhase p s) t o r = reported s t o r := by
      rw [reported, reported, if_pos probe, if_pos probe]
    have engine : ((endPhase p s).engine p).atRest = ((releaseLines p s).engine p).atRest := by
      rw [engine_endPhase, engine_releaseLines]
      rfl
    rw [State.reportedEnd, runtime, Engine.afterOutcome_plain plain plain', engine, endPhase, releaseLines_setEngine,
      State.ended]
    simp only [State.withoutSlot, State.setEngine, PerPort.set_set]
  rw [complete_quiet o d (same.activeTxn?.trans active) ((same.record? _).trans hr) (same.quiet quiet)
    (entryDue_of_probe o probe), rest, deliver, orphan, if_pos rfl]
  exact if_congr (and_iff_right probe) rfl rfl

end

/-- Where a queued probe is removed its record returns to QUARANTINED, and the probe is answered (R56, R57). -/
theorem removeExamined_probe {s : State} {t : Txn} {l : Link} {tag : Tag} {r : Record} {cause : QuarantineCause}
    (origin : t.origin = .releaseProbe l tag) (waits : t.orphan = false) (held : tag ∈ (s.link l).outstanding)
    (hr : s.record? t.handle = some r) (health : r.runtime.health = .probing cause) (quiet : s.quiet t.handle)
    {o : Status} (failed : o ≠ .ok) :
    removeExamined t (some o) s = ({ s.withoutSlot t.slot with
        records := s.records.put t.handle.slot (r.withHealth (.quarantined cause)) } : State).setLink l { s.link l with
          outstanding := (s.link l).outstanding.erase tag
          queue := (s.link l).queue ++ [Response.mk tag o (t.result [])] } := by
  have probe : t.origin.isProbe = true := by rw [origin]; rfl
  have unprobed : unprobe t.handle s =
      { s with records := s.records.put t.handle.slot (r.withHealth (.quarantined cause)) } := by
    rw [unprobe, hr]
    dsimp only
    rw [setRuntime_record hr, health]
    rfl
  have freed : freeSlot t.slot { s with records := s.records.put t.handle.slot (r.withHealth (.quarantined cause)) } =
      { s.withoutSlot t.slot with records := s.records.put t.handle.slot (r.withHealth (.quarantined cause)) } :=
    freeSlot_none _ quiet.1
  rw [removeExamined, removeQueued, if_pos probe, unprobed]
  dsimp only
  rw [freed, examine_skip (by rw [commitPending_deliver]; exact quiet.2), deliver, waits, deliverTo, origin]
  dsimp only
  rw [if_neg failed, if_neg Bool.false_ne_true]
  exact respond_outstanding _ _ _ _ _ (by exact held)

/-! ### The events at which a probe ends -/

section
variable {s : State} {p : Port} {t : Txn}

theorem finishTransfer_active (data : List Byte) (active : s.active p t (.transferring t.slot))
    (abort : (s.engine p).abortPending = false) :
    finishTransfer p data s = settle [] s (complete p .ok (t.received data) (endPhase p s)) := by
  rw [finishTransfer, active.1, active.2]
  exact congrArg (settle [] s) (atBoundary_endPhase _ abort)

theorem nackAddress_active (active : s.active p t (.transferring t.slot)) (abort : (s.engine p).abortPending = false)
    (spent : t.snapshot.retryLimit ≤ t.retries) :
    nackAddress p s = settle [] s (complete p .addressNack [] (endPhase p s)) := by
  rw [nackAddress, active.1, active.2]
  dsimp only
  rw [if_neg (Nat.not_lt.mpr spent)]
  exact congrArg (settle [] s) (atBoundary_endPhase _ abort)

theorem nackData_active (active : s.active p t (.transferring t.slot)) (abort : (s.engine p).abortPending = false)
    (sends : sendsBytes t = true) : nackData p s = settle [] s (complete p .dataNack [] (endPhase p s)) := by
  rw [nackData, active.1, active.2]
  dsimp only
  rw [if_pos sends]
  exact congrArg (settle [] s) (atBoundary_endPhase _ abort)

theorem abortPending_reportLoss (p : Port) (s : State) :
    ((reportLoss p s).engine p).abortPending = (s.engine p).abortPending := by
  have kept : KeptUnits fun u => u.engines = s.engines := ⟨fun _ _ h => h, fun _ _ _ h => h⟩
  rw [State.engine, kept.reportLoss p rfl]
  rfl

/-- A fifth loss of arbitration ends the transaction (R91). -/
theorem loseArbitration_fifth (active : s.activeTxn? p = some t) (abort : (s.engine p).abortPending = false)
    (spent : 4 ≤ t.losses) :
    loseArbitration p s = settle [] s (complete p .arbitrationLost [] (reportLoss p (yieldBus p s))) := by
  have spent' : ¬ t.losses < Config.lossesPerTransaction := Nat.not_lt.mpr spent
  have abort' : ((reportLoss p (yieldBus p s)).engine p).abortPending = false := by
    rw [abortPending_reportLoss, yieldBus]
    change (((s.setEngine p _).engine p).abortPending) = false
    rw [State.engine_setEngine_self]
    exact abort
  rw [loseArbitration, active]
  dsimp only
  rw [countLoss, if_neg spent', atBoundary_own _ abort', afterLoss, if_neg spent']

/-- A held clock line ends the transaction (R92, R94). -/
theorem reachStretchLimit_active (active : s.activeTxn? p = some t) :
    reachStretchLimit p s = settle [] s (complete p .busStuck [] (reportStuck p (holdClock p s))) := by
  have slot := activeTxn_slot active
  rw [reachStretchLimit]
  split
  · next kind work => simp [Engine.activeSlot?, work, Work.slot?] at slot
  · rfl
  · next work => simp [Engine.activeSlot?, work] at slot

theorem failSelection_active {n : Nat} {ws : List SelectionWrite} (active : s.activeTxn? p = some t)
    (work : (s.engine p).work = some (.selecting n ws)) (abort : (s.engine p).abortPending = false) :
    failSelection p s = settle [] s (complete p .segmentFault []
      (raiseBoth .segmentFault (.segment t.snapshot.segment) (endPhase p s))) := by
  rw [failSelection, active, work]
  exact congrArg (settle [] s) (atBoundary_endPhase _ abort)

theorem abortAtBoundary_pending (acked : Bool) (abort : (s.engine p).abortPending = true) :
    abortAtBoundary p acked s = settle [] s
      (complete p .abortedInhibit [] (endPhase p (setOpen p (abortedOpen (s.engine p) acked) s))) := by
  rw [abortAtBoundary]
  exact if_pos abort

end

/-- Settles O28: each event comes to a completion, of a probe that the link waits for or of an orphan. -/
theorem releaseProbeOutcome : Obligations.ReleaseProbeOutcome := by
  refine ⟨fun p t l tag r cause data s active origin waits held hr health quiet abort => ⟨?_, fun spent => ?_⟩,
    fun p t l tag r cause c o s active origin waits held hr health quiet event => ?_,
    fun slot t l tag r cause s found queued origin waits held hr health quiet => ?_,
    fun p t r cause data s active probe orphan hr health quiet abort => ⟨?_, fun spent => ?_⟩⟩
  · refine congrArg Host.Outcome.next ?_
    rw [finishTransfer_active data active abort, complete_released active.2 origin waits held hr quiet]
  · refine congrArg Host.Outcome.next ?_
    rw [nackAddress_active active abort spent,
      complete_failed active.2 origin waits held hr health quiet (by decide) (by decide) (by decide)]
  · suffices ends : ∃ u, exec c s = .next (settle [] s (complete p o [] u)) ∧ SameWork p s u ∧ o ≠ .ok by
      obtain ⟨u, run, same, failed⟩ := ends
      exact ⟨_, run, probe_fails active origin waits held hr health quiet failed same [] s⟩
    rcases event with ⟨rfl, spent, abort, rfl⟩ | ⟨rfl, rfl⟩ | ⟨rfl, ⟨ws, work⟩, abort, rfl⟩ | ⟨⟨acked, rfl⟩, abort, rfl⟩
    · exact ⟨_, congrArg Host.Outcome.next (loseArbitration_fifth active abort spent),
        (keptUnits_sameWork p s).reportLoss p (sameWork_yieldBus p s), by decide⟩
    · exact ⟨_, congrArg Host.Outcome.next (reachStretchLimit_active active),
        (keptUnits_sameWork p s).reportStuck p (sameWork_holdClock p s), by decide⟩
    · exact ⟨_, congrArg Host.Outcome.next (failSelection_active active work abort),
        (keptUnits_sameWork p s).raiseBoth _ _ (sameWork_endPhase p s), by decide⟩
    · exact ⟨_, congrArg Host.Outcome.next (abortAtBoundary_pending acked abort),
        (sameWork_setEngine (e := { s.engine p with openChannel := abortedOpen (s.engine p) acked }) rfl).trans
          (sameWork_endPhase p _), by decide⟩
  · refine congrArg Host.Outcome.next ?_
    rw [expireTransaction_queued found queued, removeExamined_probe (s := s.upTo t.deadline) origin waits held hr health
      quiet (by decide), slot_of_txn? found]
    rfl
  · refine congrArg Host.Outcome.next ?_
    rw [finishTransfer_active data active abort, complete_orphan active.2 probe orphan hr quiet _ (by decide)
        (by decide),
      if_pos rfl, reported_released probe]
  · refine congrArg Host.Outcome.next ?_
    rw [nackAddress_active active abort spent,
      complete_orphan active.2 probe orphan hr quiet _ (by decide) (by decide), if_neg (by decide),
      reported_failed probe health (by decide)]

/-! ### A record that reaches its threshold -/

theorem entryDue_eq_true {s : State} {t : Txn} {r : Record} {o : Status} (hr : s.record? t.handle = some r)
    (active : r.runtime.health = .active) (plain : t.origin.isProbe = false) (counts : o.counts = true)
    (reached : r.config.threshold ≤ min (r.runtime.score + r.config.weight) 63) : entryDue s t o = true := by
  have failed : o ≠ .ok := by
    rintro rfl
    exact absurd counts (by decide)
  have score : scoreAfter r.config.weight r.runtime.score o = min (r.runtime.score + r.config.weight) 63 := by
    rw [scoreAfter, if_neg failed, if_pos counts]
    rfl
  rw [entryDue, hr]
  simp [(Health.isActive_iff _).mpr active, plain, counts, score, reached]

/-- A completion that brings its record to the threshold leaves what a quarantine entry leaves (R59, R107). -/
theorem complete_threshold {s : State} {p : Port} {t : Txn} {r : Record} {o : Status}
    (active : s.activeTxn? p = some t) (hr : s.record? t.handle = some r) (health : r.runtime.health = .active)
    (plain : t.origin.isProbe = false) (pending : s.commitPending t.handle = false) (counts : o.counts = true)
    (reached : r.config.threshold ≤ min (r.runtime.score + r.config.weight) 63) :
    ∃ x, complete p o [] s = quarantineEntry t.handle .budget x ∧
      x.record? t.handle = some (r.withScore (min (r.runtime.score + r.config.weight) 63)) := by
  obtain ⟨e, he⟩ : ∃ e, e = s.setEngine p ((s.engine p).afterOutcome o s.now) := ⟨_, rfl⟩
  have hr' : e.record? t.handle = some r := he ▸ hr
  have counted : ({ r with runtime := reported e t o r } : Record) =
      r.withScore (min (r.runtime.score + r.config.weight) 63) := by
    rw [reported, plain, if_neg Bool.false_ne_true, record_counted e t r counts]
  have reportedHealth : (reportHealth t o e).record? t.handle =
      some (r.withScore (min (r.runtime.score + r.config.weight) 63)) := by
    rw [reportHealth, hr']
    dsimp only
    rw [record?_setRuntime_self hr', counted]
  have kept := keptRemoval_record (h := t.handle)
    (r := r.withScore (min (r.runtime.score + r.config.weight) 63)) (by rw [Record.withScore, health]; rfl)
  have record := kept.deliver t o [] (kept.freeSlot t.slot reportedHealth)
  have views : SameViews e (deliver t o [] (freeSlot t.slot (reportHealth t o e))) := by
    refine (keptRemoval_sameViews e).deliver t o [] ((keptRemoval_sameViews e).freeSlot t.slot ?_)
    rw [reportHealth, hr']
    exact sameViews_setRuntime ..
  refine ⟨_, ?_, record⟩
  rw [complete, active]
  dsimp only
  rw [entryDue_eq_true hr health plain counts reached, ← he, followUp, if_pos rfl]
  refine examine_skip ?_
  rw [commitPending_quarantineEntry, State.commitPending, views.session, he]
  exact pending

/-- Settles O30: the quarantine entry of the completion, and what it leaves. -/
theorem thresholdReachedQuarantines : Obligations.ThresholdReachedQuarantines := by
  intro c p t r s active abort event hr health plain pending reached
  have same := sameWork_endPhase p s
  suffices ends : ∃ o, exec c s = .next (settle [] s (complete p o [] (endPhase p s))) ∧ o.counts = true by
    obtain ⟨o, run, counts⟩ := ends
    obtain ⟨x, entry, record⟩ := complete_threshold (same.activeTxn?.trans active.2) ((same.record? _).trans hr) health
      plain (by rw [State.commitPending, same.session]; exact pending) counts reached
    obtain ⟨quarantined, reservation, drained, told⟩ := quarantineEntry_leaves .budget record
    rw [entry] at run
    obtain ⟨es, settled⟩ := (settled_settle [] s (quarantineEntry t.handle .budget x)).rest
    refine ⟨_, run, ?_, ?_, fun y hy on => isActive_settle (drained y ?_ on), fun m => ?_⟩
    · rw [settled]
      exact quarantined
    · rw [settled]
      exact reservation
    · rw [settled] at hy
      exact hy
    · rw [settled]
      exact told m
  rcases event with ⟨rfl, sends⟩ | ⟨rfl, spent⟩
  · exact ⟨.dataNack, congrArg Host.Outcome.next (nackData_active active abort sends), rfl⟩
  · exact ⟨.addressNack, congrArg Host.Outcome.next (nackAddress_active active abort spent), rfl⟩

end Sys2Proof.Machine
end

section
/-! SUPPORT. What the commit point leaves (R2, R7, R43, R108): the records after the re-check, its counts, and its
answer. -/
namespace Sys2Proof.Machine

/-! ### The re-check -/

/-- The record is ACTIVE with its score at its threshold (R108). -/
def Record.due (r : Record) : Bool :=
  r.runtime.health.isActive && decide (r.config.threshold ≤ r.runtime.score)

/-- A record after the threshold re-check (R108). -/
def Record.rechecked (r : Record) : Record :=
  if r.due then r.withHealth (.quarantined .budget) else r

/-- The records of a state and its generations, slot by slot. -/
def State.HasRecords (F : Nat → Option Record) (γ : Table (BitVec 4)) (s : State) : Prop :=
  (∀ n, s.records.find n = F n) ∧ s.generations = γ

theorem State.HasRecords.congr {F : Nat → Option Record} {γ : Table (BitVec 4)} {s t : State} (h : s.HasRecords F γ)
    (gates : SameGates s t) : t.HasRecords F γ := by
  obtain ⟨find, generations⟩ := h
  exact ⟨fun n => by rw [gates.records]; exact find n, gates.generations.trans generations⟩

theorem keptDelivery_records (F : Nat → Option Record) (γ : Table (BitVec 4)) :
    KeptDelivery fun s => s.HasRecords F γ where
  waiting _ h := h
  setContext _ _ _ h := h
  closeContext _ _ h := (h.congr (sameGates_respond ..)).congr ⟨rfl, rfl, rfl, rfl⟩
  placeMember _ _ _ _ _ _ _ _ _ _ _ _ h := h.congr (sameGates_place ..)
  dropSlot _ h := h
  respond _ _ _ _ h := h.congr (sameGates_respond ..)
  raise _ _ _ h := h

theorem current_of_record? {s : State} {h : Handle} {r : Record} (hr : s.record? h = some r) :
    s.generation h.slot = h.gen ∧ s.records.find h.slot = some r := by
  rw [State.record?] at hr
  split at hr
  · next current => exact ⟨current, hr⟩
  · cases hr

theorem record?_handleAt (s : State) (n : Nat) : s.record? (s.handleAt n) = s.records.find n := by
  rw [State.record?, State.handleAt, if_pos rfl]

theorem hasRecords_setRuntime {s : State} {h : Handle} {r : Record} (hr : s.record? h = some r) (rt : Runtime) :
    (s.setRuntime h rt).HasRecords
      (fun n => if n = h.slot then some { r with runtime := rt } else s.records.find n) s.generations := by
  rw [setRuntime_record hr]
  exact ⟨fun n => Table.find_put _ _ _ _, rfl⟩

/-- A removed probe changes no record where its own is not PROBING. -/
theorem hasRecords_unprobe {F : Nat → Option Record} {γ : Table (BitVec 4)} {s : State} {h : Handle}
    (has : s.HasRecords F γ) (plain : ∀ r, F h.slot = some r → r.runtime.health.unprobed = r.runtime.health) :
    (unprobe h s).HasRecords F γ := by
  rw [unprobe]
  cases hr : s.record? h with
  | none => exact has
  | some r =>
    obtain ⟨_, found⟩ := current_of_record? hr
    have same := plain r ((has.1 _).symm.trans found)
    obtain ⟨find, generations⟩ := hasRecords_setRuntime hr { r.runtime with health := r.runtime.health.unprobed }
    refine ⟨fun n => (find n).trans ?_, generations.trans has.2⟩
    dsimp only
    split
    · next slot => rw [slot, ← has.1, found, same]
    · exact has.1 n

/-- A quarantine entry changes its own record and no other (R109). -/
theorem records_quarantineEntry {s : State} {h : Handle} {r : Record} (cause : QuarantineCause)
    (hr : s.record? h = some r) :
    (quarantineEntry h cause s).HasRecords
      (fun n => if n = h.slot then some (r.withHealth (.quarantined cause)) else s.records.find n) s.generations := by
  have quarantined : (setQuarantined h cause s).HasRecords
      (fun n => if n = h.slot then some (r.withHealth (.quarantined cause)) else s.records.find n) s.generations := by
    rw [setQuarantined, hr]
    exact hasRecords_setRuntime hr _
  have k := keptDelivery_records
    (fun n => if n = h.slot then some (r.withHealth (.quarantined cause)) else s.records.find n) s.generations
  have removed := removeAll_keeps (P := fun u => u.HasRecords
      (fun n => if n = h.slot then some (r.withHealth (.quarantined cause)) else s.records.find n) s.generations)
    (ts := (setQuarantined h cause s).queuedOn h) (o := some .cancelledQuarantine) (fun u t ht _ has => by
      have on : t.handle = h := by
        have := (List.mem_filter.mp ht).2
        rw [Bool.and_eq_true, decide_eq_true_eq] at this
        exact this.1
      rw [removeQueued]
      refine k.deliver t _ [] (k.freeSlot t.slot ?_)
      split
      · refine hasRecords_unprobe has fun x hx => ?_
        rw [on, if_pos rfl] at hx
        cases hx
        rfl
      · exact has) quarantined
  have entry : quarantineEntry h cause s = raiseBoth .quarantineEntered (.handle h) (revokeReservation h
      (removeAll ((setQuarantined h cause s).queuedOn h) (some .cancelledQuarantine) (setQuarantined h cause s))) := rfl
  rw [entry]
  exact k.raiseBoth _ _ (removed.congr (sameGates_revokeReservation h _))

/-- The re-check of one slot (R108). -/
theorem recheck_records (acc : State × Nat) (m : Nat) :
    (∀ n, (recheck acc m).1.records.find n =
      if n = m then (acc.1.records.find m).map Record.rechecked else acc.1.records.find n) ∧
    (recheck acc m).2 = acc.2 + if (acc.1.records.find m).any Record.due then 1 else 0 := by
  rw [recheck]
  cases found : acc.1.records.find m with
  | none =>
    dsimp only
    refine ⟨fun n => ?_, rfl⟩
    split
    · next same => rw [same, found, Option.map_none]
    · rfl
  | some r =>
    have due : (r.runtime.health.isActive && decide (r.config.threshold ≤ r.runtime.score)) = r.due := rfl
    dsimp only
    rw [due, Option.map_some, Option.any_some, Record.rechecked]
    cases isDue : r.due
    · refine ⟨fun n => ?_, rfl⟩
      rw [if_neg Bool.false_ne_true]
      split
      · next same => rw [same, found, if_neg Bool.false_ne_true]
      · rfl
    · have hr : acc.1.record? (acc.1.handleAt m) = some r := (record?_handleAt _ _).trans found
      exact ⟨fun n => (records_quarantineEntry .budget hr).1 n, rfl⟩

/-- The re-check of several slots, each its own (R108). -/
theorem rechecks_records : ∀ (slots : List Nat) (acc : State × Nat), slots.Nodup →
    (∀ n, (slots.foldl recheck acc).1.records.find n =
      if n ∈ slots then (acc.1.records.find n).map Record.rechecked else acc.1.records.find n) ∧
    (slots.foldl recheck acc).2 = acc.2 + slots.countP fun n => (acc.1.records.find n).any Record.due := by
  intro slots
  induction slots with
  | nil => exact fun acc _ => ⟨fun n => rfl, rfl⟩
  | cons m rest ih =>
    intro acc nodup
    obtain ⟨fresh, nodup'⟩ := List.nodup_cons.mp nodup
    obtain ⟨find, count⟩ := recheck_records acc m
    obtain ⟨find', count'⟩ := ih (recheck acc m) nodup'
    refine ⟨fun n => (find' n).trans ?_, count'.trans ?_⟩
    · rw [find n]
      by_cases here : n = m
      · rw [here, if_neg fresh, if_pos rfl, if_pos (List.mem_cons_self ..)]
      · rw [if_neg here]
        exact if_congr (by rw [List.mem_cons, or_iff_right here]) rfl rfl
    · have others : (rest.countP fun n => ((recheck acc m).1.records.find n).any Record.due) =
          rest.countP fun n => (acc.1.records.find n).any Record.due := by
        refine List.countP_congr fun n hn => ?_
        rw [find n, if_neg fun same : n = m => fresh (same ▸ hn)]
      rw [count, others, List.countP_cons]
      omega

/-! ### The records and the counts of a commit point -/

section
variable {s : State} {g : Configuration}

theorem find_installStaging (g : Configuration) (s : State) (n : Nat) :
    (installStaging g s).records.find n = (g.endpoints.find n).map (s.committedRecord n) :=
  Table.find_mapValues _ _ _

theorem nodup_kept (sorted : s.records.sorted = true) : (s.kept g).Nodup :=
  (List.filter_sublist.map Prod.fst).nodup (Table.nodup_keys sorted)

theorem mem_kept (sorted : s.records.sorted = true) {n : Nat} {c : EndpointConfig}
    (hc : g.endpoints.find n = some c) :
    n ∈ s.kept g ↔ ∃ r, s.records.find n = some r ∧ r.config.sameRoute c = true := by
  rw [State.kept, List.mem_map]
  constructor
  · rintro ⟨⟨m, r⟩, member, rfl⟩
    obtain ⟨stored, same⟩ := List.mem_filter.mp member
    dsimp only at same hc
    rw [hc] at same
    exact ⟨r, (Table.mem_iff_find sorted).mp stored, same⟩
  · rintro ⟨r, found, same⟩
    refine ⟨(n, r), List.mem_filter.mpr ⟨(Table.mem_iff_find sorted).mpr found, ?_⟩, rfl⟩
    dsimp only
    rw [hc]
    exact same

theorem sameRoute_iff (x y : EndpointConfig) : x.sameRoute y = true ↔ x.segment = y.segment ∧ x.address = y.address :=
  decide_eq_true_iff

/-- The record of a slot after the commit point is the committed one, re-checked where its route is kept (R43, R108). -/
theorem recordAfterCommit_eq (sorted : s.records.sorted = true) {n : Nat} {c : EndpointConfig}
    (hc : g.endpoints.find n = some c) :
    s.recordAfterCommit n c =
      if n ∈ s.kept g then (s.committedRecord n c).rechecked else s.committedRecord n c := by
  rw [State.recordAfterCommit, State.committedRecord]
  cases found : s.records.find n with
  | none =>
    have out : n ∉ s.kept g := fun kept => by
      obtain ⟨r, hr, _⟩ := (mem_kept sorted hc).mp kept
      rw [found] at hr
      cases hr
    rw [if_neg out]
    rfl
  | some r =>
    by_cases same : r.config.segment = c.segment ∧ r.config.address = c.address
    · have route := (sameRoute_iff _ _).mpr same
      have kept : n ∈ s.kept g := (mem_kept sorted hc).mpr ⟨r, found, route⟩
      have stays : ¬ (r.config.segment ≠ c.segment ∨ r.config.address ≠ c.address) := by
        rw [not_or, not_not, not_not]
        exact same
      rw [if_pos kept]
      dsimp only
      rw [if_neg stays, if_pos route, Record.rechecked]
      refine if_congr ?_ rfl rfl
      rw [Record.due, Bool.and_eq_true, decide_eq_true_eq, Health.isActive_iff]
    · have route : ¬ r.config.sameRoute c = true := mt (sameRoute_iff _ _).mp same
      have out : n ∉ s.kept g := fun kept => by
        obtain ⟨r', hr, route'⟩ := (mem_kept sorted hc).mp kept
        rw [found] at hr
        cases hr
        exact route route'
      rw [if_neg out]
      dsimp only
      rw [if_pos (not_and_or.mp same), if_neg route]
      rfl

theorem length_added (g : Configuration) (s : State) :
    (s.added g).length = (g.endpoints.filter fun e => (s.records.find e.1).isNone).length := by
  rw [State.added, List.filter_map, List.length_map]
  rfl

theorem length_retiring (g : Configuration) (s : State) :
    (s.retiring g).length = (s.records.filter fun e => (g.endpoints.find e.1).isNone).length := by
  rw [State.retiring, List.filter_map, List.length_map]
  rfl

theorem length_rerouted (g : Configuration) (s : State) :
    (s.rerouted g).length = (s.records.filter fun e => (g.endpoints.find e.1).any fun c =>
      decide (e.2.config.segment ≠ c.segment ∨ e.2.config.address ≠ c.address)).length := by
  rw [State.rerouted, List.length_map]
  refine congrArg List.length (List.filter_congr fun e _ => ?_)
  cases g.endpoints.find e.1 with
  | none => rfl
  | some c =>
    rw [Option.any_some, Option.any_some, EndpointConfig.sameRoute, ← decide_not]
    exact decide_eq_decide.mpr not_and_or

/-- The re-check quarantines the records of the kept slots that are due under their new configuration (R108). -/
theorem countP_kept (sorted : s.records.sorted = true) :
    ((s.kept g).countP fun n => ((installStaging g s).records.find n).any Record.due) =
      (s.records.filter fun e => (g.endpoints.find e.1).any fun c =>
        decide (e.2.config.segment = c.segment ∧ e.2.config.address = c.address ∧ e.2.runtime.health = .active ∧
          c.threshold ≤ e.2.runtime.score)).length := by
  rw [State.kept, List.countP_map, List.countP_filter, List.countP_eq_length_filter]
  refine congrArg List.length (List.filter_congr fun e member => ?_)
  obtain ⟨n, r⟩ := e
  have found := (Table.mem_iff_find sorted).mp member
  rw [Function.comp_apply, find_installStaging]
  cases g.endpoints.find n with
  | none => rfl
  | some c =>
    rw [Option.map_some, Option.any_some, Option.any_some, Option.any_some]
    by_cases same : r.config.segment = c.segment ∧ r.config.address = c.address
    · have route := (sameRoute_iff _ _).mpr same
      have committed : s.committedRecord n c = { config := c, runtime := r.runtime } := by
        rw [State.committedRecord, found]
        exact congrArg (Record.mk c) (if_pos route)
      have active := Health.isActive_iff r.runtime.health
      rw [committed, route, Bool.and_true, Record.due, same.1, same.2]
      simp only [true_and, ← active, Bool.decide_and, Bool.decide_eq_true]
    · have route : r.config.sameRoute c = false := Bool.eq_false_of_not_eq_true (mt (sameRoute_iff _ _).mp same)
      rw [route, Bool.and_false, eq_comm, decide_eq_false_iff_not]
      exact fun all => same ⟨all.1, all.2.1⟩

/-! ### The commit point -/

section
variable {l : Link} {k : CommitRecord}

/-- The state of a commit point after its re-check. -/
def State.checkedOut (g : Configuration) (s : State) : State × Nat :=
  (s.kept g).foldl recheck (installStaging g s, 0)

theorem commitPoint_armed (armed : s.session = .armed l g k) :
    commitPoint s = raise l.other .directoryChanged .none (respond l k.tag .ok (wordOf (s.epoch + 1).toNat ++
      [byteOf (s.added g).length, byteOf (s.retiring g).length, byteOf (s.rerouted g).length,
        byteOf (s.checkedOut g).2]) (s.checkedOut g).1) := by
  rw [commitPoint, armed]
  rfl

theorem sameViews_checkedOut (g : Configuration) (s : State) : SameViews (installStaging g s) (s.checkedOut g).1 :=
  (keptQueue_sameViews _).rechecks (.refl _)

theorem configs_installStaging (g : Configuration) (s : State) (n : Nat) :
    ((installStaging g s).records.find n).map Record.config = g.endpoints.find n := by
  rw [find_installStaging, Option.map_map]
  cases g.endpoints.find n with
  | none => rfl
  | some c =>
    rw [Option.map_some, Function.comp_apply, State.committedRecord]
    split <;> rfl

theorem sameViews_commitPoint (armed : s.session = .armed l g k) : SameViews (installStaging g s) (commitPoint s) := by
  rw [commitPoint_armed armed]
  exact (sameViews_checkedOut g s).trans ((sameViews_respond ..).trans ⟨.of_eq rfl rfl rfl rfl rfl, rfl⟩)

/-- The commit point commits the staging view (R43). -/
theorem commitPoint_commits (armed : s.session = .armed l g k) : s.commitsTo g (commitPoint s) := by
  have same := sameViews_commitPoint armed
  exact ⟨same.session, same.epoch, same.segments, same.groups,
    fun n => (same.configs n).trans (configs_installStaging g s n)⟩

theorem generation_commitPoint (armed : s.session = .armed l g k) (sorted : s.records.sorted = true) (n : Nat) :
    (commitPoint s).generation n =
      if (s.records.find n).isSome = true ∧ g.endpoints.find n = none then s.generation n + 1 else s.generation n := by
  rw [(sameViews_commitPoint armed).generation, generation_installStaging sorted]

theorem records_commitPoint (armed : s.session = .armed l g k) (sorted : s.records.sorted = true) {n : Nat}
    {c : EndpointConfig} (hc : g.endpoints.find n = some c) :
    (commitPoint s).records.find n = some (s.recordAfterCommit n c) := by
  have checked : (commitPoint s).records = (s.checkedOut g).1.records := by
    rw [commitPoint_armed armed]
    exact respond_records ..
  rw [checked, State.checkedOut, (rechecks_records _ (installStaging g s, 0) (nodup_kept sorted)).1 n,
      find_installStaging, hc,
    recordAfterCommit_eq sorted hc]
  split <;> rfl

theorem counts_commitPoint (sorted : s.records.sorted = true) :
    [byteOf (s.added g).length, byteOf (s.retiring g).length, byteOf (s.rerouted g).length,
      byteOf (s.checkedOut g).2] = (s.commitCounts g).map byteOf := by
  have checked : (s.checkedOut g).2 = (s.kept g).countP fun n => ((installStaging g s).records.find n).any Record.due :=
    ((rechecks_records _ (installStaging g s, 0) (nodup_kept sorted)).2).trans (Nat.zero_add _)
  rw [checked, countP_kept sorted, length_added, length_retiring, length_rerouted]
  rfl

/-- The COMMIT's tag is outstanding when the commit point answers it (R37, R43). -/
theorem held_checkedOut {hand : List Tag} (armed : s.session = .armed l g k) (owes : s.Owes l hand) :
    k.tag ∈ ((s.checkedOut g).1.link l).outstanding := by
  have absent : ({ s with session := .absent } : State).Owes l (k.tag :: hand) :=
    owes.withSession fun x => by
      rw [armed, tagOn?_armed, tagFor, if_pos rfl, List.count_cons]
      simp [Session.tagOn?, List.count_singleton]
      omega
  have installed : (installStaging g s).Owes l (k.tag :: hand) := absent.congr (.of_eq rfl rfl rfl rfl rfl)
  exact outstanding_of_owes ((keptQueue_owes l _).rechecks installed)

/-- The commit point adds the answer of its COMMIT, after the responses of the removals that it makes (R43). -/
theorem queue_commitPoint {hand : List Tag} (armed : s.session = .armed l g k) (sorted : s.records.sorted = true)
    (owes : s.Owes l hand) :
    ∃ added, ((commitPoint s).link l).queue = (s.link l).queue ++ added ++
      [Response.mk k.tag .ok (wordOf (s.epoch + 1).toNat ++ (s.commitCounts g).map byteOf)] := by
  obtain ⟨added, before⟩ := ((flow_rechecks (s.kept g) (installStaging g s, 0)).links l).queue
  have before' : ((s.checkedOut g).1.link l).queue = (s.link l).queue ++ added := before
  have other : l ≠ l.other := by cases l <;> decide
  refine ⟨added, ?_⟩
  rw [commitPoint_armed armed, counts_commitPoint sorted, link_raise, if_neg other,
    respond_outstanding _ _ _ _ _ (held_checkedOut armed owes), State.link_setLink_self, before']

theorem attention_raise (l : Link) (kind : AttentionKind) (x : Subject) (s : State) :
    (((raise l kind x s).link l).attention.find kind.num).map AttentionEntry.subject = some x := by
  have subject (e : Option AttentionEntry) : (AttentionEntry.raised e x).subject = x := by cases e <;> rfl
  rw [link_raise, if_pos rfl, Table.find_put_self, Option.map_some, subject]

theorem attention_commitPoint (armed : s.session = .armed l g k) :
    (((commitPoint s).link l.other).attention.find 3).map AttentionEntry.subject = some .none := by
  rw [commitPoint_armed armed]
  exact attention_raise l.other .directoryChanged .none _

/-- What the commit point leaves, where the tables are canonical and the tags owed (R43). -/
theorem commitPoint_answers {hand : List Tag} (armed : s.session = .armed l g k) (sorted : s.records.sorted = true)
    (owes : s.Owes l hand) : s.answersCommit g l k.tag (commitPoint s) := by
  obtain ⟨added, queue⟩ := queue_commitPoint armed sorted owes
  exact ⟨fun n c hc => records_commitPoint armed sorted hc, generation_commitPoint armed sorted,
    ⟨added, [], queue.trans (List.append_nil _).symm⟩, attention_commitPoint armed⟩

end
end

end Sys2Proof.Machine
end

section
/-! SUPPORT. How a commit comes to its commit point: at its arming, or when the last of its affected records comes to
rest (R39, R42, R43, R148). -/
namespace Sys2Proof.Machine

/-! ### At arming -/

theorem revokeReservation_none {s : State} {h : Handle} (none_ : s.reservation? h = none) :
    revokeReservation h s = s := by
  rw [revokeReservation, none_]

theorem foldl_revoke_none {s : State} : ∀ hs : List Handle, (∀ h ∈ hs, s.reservation? h = none) →
    hs.foldl (fun u h => revokeReservation h u) s = s := by
  intro hs
  induction hs with
  | nil => exact fun _ => rfl
  | cons h rest ih =>
    intro free
    rw [List.foldl_cons, revokeReservation_none (free h (List.mem_cons_self ..))]
    exact ih fun x hx => free x (List.mem_cons_of_mem _ hx)

theorem inFlight_eq_zero {s : State} {h : Handle} : s.inFlight h = 0 ↔ ∀ x ∈ s.pool, x.handle ≠ h := by
  rw [State.inFlight, List.length_eq_zero_iff, List.filter_eq_nil_iff]
  simp only [decide_eq_true_eq, ne_eq]

/-- Where every affected record is at rest a PREEMPT arming removes nothing (R40). -/
theorem preempt_atRest {s : State}
    (rest : ∀ h ∈ s.session.affected, s.inFlight h = 0 ∧ s.reservation? h = none) : preempt s = s := by
  have nothing : s.preempted = [] := by
    refine List.flatMap_eq_nil_iff.mpr fun p _ => List.filter_eq_nil_iff.mpr fun t ht pending => ?_
    exact inFlight_eq_zero.mp (rest t.handle (of_decide_eq_true pending)).1 t (List.mem_of_mem_filter ht) rfl
  rw [preempt, nothing]
  exact foldl_revoke_none _ fun h hh => (rest h hh).2

theorem atRest_iff {s : State} {h : Handle} : s.atRest h = true ↔ s.inFlight h = 0 ∧ s.reservation? h = none := by
  rw [State.atRest, Bool.and_eq_true, decide_eq_true_eq, Option.isNone_iff_eq_none]

theorem arm_atRest {s : State} {l : Link} {tag : Tag} {g : Configuration} (mode : CommitMode) (d : Option Nat)
    (rest : ∀ h ∈ s.affectedBy g, s.inFlight h = 0 ∧ s.reservation? h = none) :
    arm l tag mode d g s = commitPoint (armSession l tag mode d g s) := by
  have acted : armingActions mode (armSession l tag mode d g s) = armSession l tag mode d g s := by
    cases mode with
    | wait => rfl
    | preempt => exact preempt_atRest rest
  rw [arm, acted, commitIfAtRest]
  exact if_pos (List.all_eq_true.mpr fun h hh => atRest_iff.mpr (rest h hh))

theorem owes_armSession {s : State} (l : Link) (tag : Tag) (ps : List Byte) (mode : CommitMode) (d : Option Nat)
    (g : Configuration) (owed : s.tagsOwed) (free : s.session.tagOn? l = none) :
    (armSession l tag mode d g (s.accepted l tag ps)).Owes l [] := by
  refine (owes_accepted owed l tag ps).withSession fun x => ?_
  rw [accepted_session, free, tagOn?_armed, tagFor, if_pos rfl]
  exact Nat.add_comm _ _

theorem link_accepted_queue (s : State) (l m : Link) (tag : Tag) (ps : List Byte) :
    ((s.accepted l tag ps).link m).queue = (s.link m).queue := by
  rw [State.accepted, State.link_setLink]
  split
  · next same => rw [same]
  · rfl

theorem exec_commit_opened {l : Link} {tag : Tag} {ps : List Byte} {mode : CommitMode} {d : Option Nat}
    {g : Configuration} {expiry : Time} {s : State} (ha : s.accepts l tag ps) (open_ : s.session = .opened l g expiry)
    (read : commitBlock? ps = some (mode, d)) :
    exec (.commit l tag ps) s =
      .next (settle [] (s.accepted l tag ps) (arm l tag mode d g (s.accepted l tag ps))) := by
  rw [exec_edit (fun (x : CommitMode × Option Nat) g s => settle [] s (arm l tag x.1 x.2 g s)) (exec_commit ha) open_
    read]

/-- Settles O22: the commit point of the armed session; the end of the command changes engines alone. -/
theorem commitPointAtArming : Obligations.CommitPointAtArming := by
  intro l tag ps mode d g expiry s ha open_ read tables owed rest
  obtain ⟨u, hu⟩ : ∃ u, u = armSession l tag mode d g (s.accepted l tag ps) := ⟨_, rfl⟩
  have armed : u.session = .armed l g
      { mode := mode, deadline := s.after (d.getD s.tCmt), tag := tag, affected := s.affectedBy g } := by
    rw [hu]
    rfl
  have owes : u.Owes l [] := by
    rw [hu]
    exact owes_armSession l tag ps mode d g owed (by rw [open_]; rfl)
  have records : u.records = s.records := by rw [hu]; rfl
  have sorted : u.records.sorted = true := records ▸ tables.1
  have generations : u.generations = s.generations := by rw [hu]; rfl
  have queue : (u.link l).queue = (s.link l).queue := by
    rw [hu]
    exact link_accepted_queue s l l tag ps
  have epoch : u.epoch = s.epoch := by rw [hu]; rfl
  have after (n : Nat) (c : EndpointConfig) : u.recordAfterCommit n c = s.recordAfterCommit n c := by
    rw [State.recordAfterCommit, State.recordAfterCommit, records]
  have counts : u.commitCounts g = s.commitCounts g := by rw [State.commitCounts, State.commitCounts, records]
  obtain ⟨es, settled⟩ := (settled_settle [] (s.accepted l tag ps) (commitPoint u)).rest
  obtain ⟨session, epoch', segments, groups, configs⟩ := commitPoint_commits armed
  obtain ⟨added, queue'⟩ := queue_commitPoint armed sorted owes
  rw [exec_commit_opened ha open_ read, arm_atRest (s := s.accepted l tag ps) mode d rest, ← hu, settled]
  refine ⟨_, rfl, session, epoch'.trans (by rw [epoch]), segments, groups, configs, fun n => ?_,
    ⟨added, (s.commitCounts g).map byteOf, ?_, rfl, rfl⟩, attention_commitPoint armed, fun n c hc => ?_⟩
  · refine (generation_commitPoint armed sorted n).trans ?_
    rw [records, State.generation, State.generation, generations]
  · refine queue'.trans ?_
    rw [queue, epoch, counts]
  · rw [← after]
    exact records_commitPoint armed sorted hc

/-! ### When the last affected record comes to rest -/

/-- The answer of a commit point that follows other effects of a command, and is followed by others. -/
theorem answersCommit_between {s u w t : State} {g : Configuration} {l : Link} {tag : Tag}
    (answers : u.answersCommit g l tag w) (counts : u.commitCounts g = s.commitCounts g)
    (after : ∀ n c, g.endpoints.find n = some c → u.recordAfterCommit n c = s.recordAfterCommit n c)
    (views : SameViews s u) (before : ∃ added, (u.link l).queue = (s.link l).queue ++ added)
    (records : t.records = w.records) (generations : t.generations = w.generations)
    (queue : ∃ added, (t.link l).queue = (w.link l).queue ++ added)
    (attention : (t.link l.other).attention = (w.link l.other).attention) : s.answersCommit g l tag t := by
  obtain ⟨recs, gens, ⟨a, b, answer⟩, told⟩ := answers
  obtain ⟨earlier, hearlier⟩ := before
  obtain ⟨later, hlater⟩ := queue
  refine ⟨fun n c hc => ?_, fun n => ?_, ⟨earlier ++ a, b ++ later, ?_⟩, ?_⟩
  · rw [records, recs n c hc, after n c hc]
  · rw [State.generation, generations, ← State.generation, gens n, views.live, views.generation]
  · rw [hlater, answer, hearlier, counts, views.epoch]
    simp only [List.append_assoc]
  · rw [attention]
    exact told

/-- The examination of a record of an armed commit takes the commit point where every affected record is at rest
(R42). -/
theorem examine_atRest {s : State} {l : Link} {g : Configuration} {k : CommitRecord} {h : Handle}
    (armed : s.session = .armed l g k) (affected : h ∈ k.affected)
    (rest : ∀ j ∈ k.affected, s.inFlight j = 0 ∧ s.reservation? j = none) : examine [h] s = commitPoint s := by
  have pending : s.commitPending h = true := by
    rw [State.commitPending, armed]
    exact decide_eq_true affected
  have all : s.session.affected.all s.atRest = true := by
    rw [armed]
    exact List.all_eq_true.mpr fun j hj => atRest_iff.mpr (rest j hj)
  rw [examine, List.any_cons, pending, all]
  rfl

theorem reservation?_removeReservation_of {s : State} {h j : Handle} (rest : j = h ∨ s.reservation? j = none) :
    (removeReservation h s).reservation? j = none := by
  refine List.find?_eq_none.mpr fun x hx => ?_
  obtain ⟨old, other⟩ := List.mem_filter.mp hx
  rcases rest with rfl | none_
  · simpa using other
  · exact List.find?_eq_none.mp none_ x old

/-- No member may be placed on the records of these handles, and nothing is in flight on them. -/
structure State.Unused (B : Handle → Prop) (s : State) : Prop where
  barred : ∀ h, B h → ¬ s.admits h
  empty : ∀ x ∈ s.pool, ¬ B x.handle

section
variable {B : Handle → Prop} {s t : State}

theorem State.Unused.congr (d : s.Unused B) (gates : SameGates s t)
    (pool : ∀ x ∈ t.pool, x ∈ s.pool ∨ s.admits x.handle) : t.Unused B := by
  refine ⟨fun h hb admitted => d.barred h hb ((gates.admits h).mp admitted), fun x hx hb => ?_⟩
  rcases pool x hx with old | admitted
  · exact d.empty x old hb
  · exact d.barred _ hb admitted

theorem keptDelivery_unused (B : Handle → Prop) : KeptDelivery fun s => s.Unused B where
  waiting _ d := d.congr ⟨rfl, rfl, rfl, rfl⟩ fun _ hx => .inl hx
  setContext _ _ _ d := d.congr ⟨rfl, rfl, rfl, rfl⟩ fun _ hx => .inl hx
  closeContext _ _ d :=
    (d.congr (sameGates_respond ..) fun x hx => .inl (by rwa [respond_pool] at hx)).congr ⟨rfl, rfl, rfl, rfl⟩
      fun _ hx => .inl hx
  placeMember _ _ _ _ _ _ _ _ _ _ _ admitted d := d.congr (sameGates_place ..) fun x hx => by
    rcases pool_place _ _ _ _ _ _ _ _ _ x hx with old | same
    · exact .inl old
    · exact .inr (same ▸ admitted)
  dropSlot _ d := d.congr ⟨rfl, rfl, rfl, rfl⟩ fun _ hx => .inl (List.mem_of_mem_filter hx)
  respond _ _ _ _ d := d.congr (sameGates_respond ..) fun x hx => .inl (by rwa [respond_pool] at hx)
  raise _ _ _ d := d.congr ⟨rfl, rfl, rfl, rfl⟩ fun _ hx => .inl hx

theorem pool_unprobe (h : Handle) (s : State) : (unprobe h s).pool = s.pool ∧
    (unprobe h s).reservations = s.reservations := by
  unfold unprobe State.setRuntime
  split
  · split <;> exact ⟨rfl, rfl⟩
  · exact ⟨rfl, rfl⟩

/-- The removal of all that is in flight on barred records, which one slot holds (R57). -/
theorem unused_removeQueued {y : Txn} (o : Status) (barred : ∀ h, B h → ¬ s.admits h)
    (last : ∀ z ∈ s.pool, B z.handle → z.slot = y.slot) : (removeQueued y (some o) s).Unused B := by
  have k := keptDelivery_unused B
  have freed : ∀ u : State, (∀ h, B h → ¬ u.admits h) → u.pool = s.pool → (u.withoutSlot y.slot).Unused B :=
    fun u bars pool => ⟨bars, fun z hz hb => by
      obtain ⟨old, other⟩ := List.mem_filter.mp hz
      exact of_decide_eq_true other (last z (pool ▸ old) hb)⟩
  rw [removeQueued]
  refine k.deliver y o [] (k.handOut (freed _ ?_ ?_))
  · split
    · exact fun h hb admitted => barred h hb ((admits_unprobe _ h s).mp admitted)
    · exact barred
  · split
    · exact (pool_unprobe _ s).1
    · rfl

end

theorem keptRemoval_reservations (vs : List Reservation) : KeptRemoval fun s => s.reservations = vs where
  waiting _ h := h
  setContext _ _ _ h := h
  closeContext _ _ h := (respond_reservations ..).trans h
  placeMember _ _ _ _ _ _ _ _ _ _ _ _ h := by
    rw [place]
    split <;> exact h
  dropSlot _ h := h
  respond _ _ _ _ h := (respond_reservations ..).trans h
  raise _ _ _ h := h
  unprobe x h := (pool_unprobe x _).2.trans h

/-- A removal changes at most the record of the removed transaction, and in it the runtime state alone (R57). -/
theorem records_removeQueued {s : State} {y : Txn} {r : Record} (o : Status) (hr : s.record? y.handle = some r) :
    ∃ r', r'.config = r.config ∧ (removeQueued y (some o) s).HasRecords
      (fun n => if n = y.handle.slot then some r' else s.records.find n) s.generations := by
  obtain ⟨_, found⟩ := current_of_record? hr
  have start : ∃ r', r'.config = r.config ∧ (if y.origin.isProbe then unprobe y.handle s else s).HasRecords
      (fun n => if n = y.handle.slot then some r' else s.records.find n) s.generations := by
    split
    · refine ⟨{ r with runtime := { r.runtime with health := r.runtime.health.unprobed } }, rfl, ?_⟩
      rw [unprobe, hr]
      exact hasRecords_setRuntime hr _
    · refine ⟨r, rfl, fun n => ?_, rfl⟩
      dsimp only
      split
      · next same => rw [same, found]
      · rfl
  obtain ⟨r', config, has⟩ := start
  have k := keptDelivery_records (fun n => if n = y.handle.slot then some r' else s.records.find n) s.generations
  exact ⟨r', config, k.deliver y o [] (k.freeSlot y.slot has)⟩

/-- A table in which the value of a key that it has is replaced. -/
theorem put_eq_mapValues {α : Type} {t : Table α} {k : Nat} {v w : α} (sorted : t.sorted = true)
    (found : t.find k = some v) : t.put k w = t.mapValues fun n x => if n = k then w else x := by
  refine Table.ext (Table.sorted_put _ _ sorted) ((Table.sorted_mapValues _ _).trans sorted) fun n => ?_
  rw [Table.find_put, Table.find_mapValues]
  split
  · next same => rw [same, found, Option.map_some]
  · cases t.find n <;> rfl

theorem length_filter_mapValues {α β : Type} (f : Nat → α → β) (P : Nat × β → Bool) (Q : Nat × α → Bool) (t : Table α)
    (h : ∀ n x, (n, x) ∈ t → P (n, f n x) = Q (n, x)) :
    (List.filter P (t.mapValues f)).length = (List.filter Q t).length := by
  rw [Table.mapValues, List.filter_map, List.length_map]
  exact congrArg List.length (List.filter_congr fun e he => h e.1 e.2 he)

/-- A change of the runtime part of a record whose route the commit changes is none of the commit's answer. -/
theorem commit_of_rerouted {s u : State} {g : Configuration} {m : Nat} {r r' : Record}
    (sorted : s.records.sorted = true)
    (found : s.records.find m = some r) (config : r'.config = r.config)
    (leaves : ∀ c, g.endpoints.find m = some c → ¬ (r.config.segment = c.segment ∧ r.config.address = c.address))
    (records : u.records = s.records.put m r') :
    u.commitCounts g = s.commitCounts g ∧
      ∀ n c, g.endpoints.find n = some c → u.recordAfterCommit n c = s.recordAfterCommit n c := by
  have here : ∀ {x : Record}, (m, x) ∈ s.records → x = r := fun member => by
    have := (Table.mem_iff_find sorted).mp member
    rw [found] at this
    exact (Option.some.inj this).symm
  constructor
  · rw [State.commitCounts, State.commitCounts]
    have live (n : Nat) : (u.records.find n).isNone = (s.records.find n).isNone := by
      rw [records, Table.find_put]
      split
      · next same => rw [same, found]; rfl
      · rfl
    have mapped := records.trans (put_eq_mapValues sorted found)
    rw [mapped]
    refine List.cons_eq_cons.mpr ⟨?_, List.cons_eq_cons.mpr ⟨?_, List.cons_eq_cons.mpr
        ⟨?_, List.cons_eq_cons.mpr ⟨?_, rfl⟩⟩⟩⟩
    · rw [← mapped]
      exact congrArg List.length (List.filter_congr fun e _ => live e.1)
    · exact length_filter_mapValues _ _ _ _ fun n x _ => rfl
    · refine length_filter_mapValues _ _ _ _ fun n x member => ?_
      dsimp only
      split
      · next same =>
        subst same
        rw [config, here member]
      · rfl
    · refine length_filter_mapValues _ _ _ _ fun n x member => ?_
      dsimp only
      split
      · next same =>
        subst same
        cases endpoint : g.endpoints.find n with
        | none => rfl
        | some c =>
          have out := leaves c endpoint
          rw [Option.any_some, Option.any_some, config, here member, decide_eq_decide]
          exact iff_of_false (fun all => out ⟨all.1, all.2.1⟩) fun all => out ⟨all.1, all.2.1⟩
      · rfl
  · intro n c hc
    rw [State.recordAfterCommit, State.recordAfterCommit, records, Table.find_put]
    by_cases same : n = m
    · subst same
      have out := not_and_or.mp (leaves c hc)
      have out' : r'.config.segment ≠ c.segment ∨ r'.config.address ≠ c.address := by rwa [config]
      rw [if_pos rfl, found]
      dsimp only
      rw [if_pos out, if_pos out']
    · rw [if_neg same]

end Sys2Proof.Machine
end

section
/-! SUPPORT. An armed commit reaches its commit point when its last affected record comes to rest (R42, R43, R148). -/
namespace Sys2Proof.Machine

theorem attention_respond (l m : Link) (tag : Tag) (o : Status) (d : List Byte) (s : State) :
    ((respond l tag o d s).link m).attention = (s.link m).attention := by
  by_cases held : tag ∈ (s.link l).outstanding
  · rw [respond_outstanding _ _ _ _ _ held, State.link_setLink]
    split
    · next same => rw [same]
    · rfl
  · rw [respond_not_outstanding _ _ _ _ _ held]

/-- What stands when an armed commit has reached its commit point within a command that began in a state (R42, R43). -/
def State.reaches (s : State) (g : Configuration) (l : Link) (k : CommitRecord) (t : State) : Prop :=
  t.session = .absent ∧ t.epoch = s.epoch + 1 ∧ t.segments = g.segments ∧ t.groups = g.groups ∧
    (∀ n, (t.records.find n).map Record.config = g.endpoints.find n) ∧
    (s.tablesSorted → s.tagsOwed → k.affected = s.affectedBy g → s.answersCommit g l k.tag t)

section
variable {s u t : State} {g : Configuration} {l : Link} {k : CommitRecord}

/-- The commit point of a state that the command has come to reaches what the commit of its first state is to reach. -/
theorem reaches_of_commitPoint (armed : u.session = .armed l g k) (views : SameViews s u)
    (before : ∃ added, (u.link l).queue = (s.link l).queue ++ added) (same : SameViews (commitPoint u) t)
    (records : t.records = (commitPoint u).records)
    (queue : ∃ added, (t.link l).queue = ((commitPoint u).link l).queue ++ added)
    (attention : (t.link l.other).attention = ((commitPoint u).link l.other).attention)
    (facts : s.tablesSorted → s.tagsOwed → k.affected = s.affectedBy g → u.records.sorted = true ∧
      (∃ hand, u.Owes l hand) ∧ u.commitCounts g = s.commitCounts g ∧
      ∀ n c, g.endpoints.find n = some c → u.recordAfterCommit n c = s.recordAfterCommit n c) :
    s.reaches g l k t := by
  obtain ⟨session, epoch, segments, groups, configs⟩ := commitPoint_commits armed
  refine ⟨same.session.trans session, by rw [same.epoch, epoch, views.epoch], same.segments.trans segments,
    same.groups.trans groups, fun n => (same.configs n).trans (configs n), fun tables owed affected => ?_⟩
  obtain ⟨sorted, ⟨hand, owes⟩, counts, after⟩ := facts tables owed affected
  exact answersCommit_between (commitPoint_answers armed sorted owes) counts after views before records
    same.generations queue attention

theorem sameViews_engines (es : PerPort Engine) (s : State) : SameViews s { s with engines := es } :=
  ⟨.of_eq rfl rfl rfl rfl rfl, rfl⟩

theorem commit_of_records (records : u.records = s.records) :
    u.commitCounts g = s.commitCounts g ∧
      ∀ n c, g.endpoints.find n = some c → u.recordAfterCommit n c = s.recordAfterCommit n c :=
  ⟨by rw [State.commitCounts, State.commitCounts, records],
    fun n c _ => by rw [State.recordAfterCommit, State.recordAfterCommit, records]⟩

/-- The expiry of the last reservation (R145, R148). -/
theorem reaches_of_expiry {h : Handle} {x : Reservation} (armed : s.session = .armed l g k) (affected : h ∈ k.affected)
    (found : s.reservation? h = some x)
    (rest : ∀ j ∈ k.affected, s.inFlight j = 0 ∧ (j = h ∨ s.reservation? j = none)) :
    s.reaches g l k (expireReservation h s) := by
  obtain ⟨u, hu⟩ : ∃ u, u = raise x.holder .reservationExpired (.handle h) (removeReservation h (s.upTo x.expiry)) :=
    ⟨_, rfl⟩
  have armed' : u.session = .armed l g k := by rw [hu]; exact armed
  have rest' : ∀ j ∈ k.affected, u.inFlight j = 0 ∧ u.reservation? j = none := fun j hj => by
    obtain ⟨idle, none_⟩ := rest j hj
    rw [hu]
    exact ⟨idle, reservation?_removeReservation_of none_⟩
  have expired : expireReservation h s = settle [] s (commitPoint u) := by
    rw [expireReservation, found]
    dsimp only
    rw [← hu, examine_atRest armed' affected rest']
  obtain ⟨es, settled⟩ := (settled_settle [] s (commitPoint u)).rest
  have views : SameViews s u := by rw [hu]; exact ⟨.of_eq rfl rfl rfl rfl rfl, rfl⟩
  have records : u.records = s.records := by rw [hu]; rfl
  have queue : (u.link l).queue = (s.link l).queue := by
    rw [hu]
    exact (sameWork_raise (p := .p0) x.holder .reservationExpired (.handle h)
      (removeReservation h (s.upTo x.expiry))).queue l
  rw [expired, settled]
  refine reaches_of_commitPoint armed' views ⟨[], by rw [queue, List.append_nil]⟩ (sameViews_engines es _) rfl
    ⟨[], (List.append_nil _).symm⟩ rfl fun tables owed _ => ?_
  refine ⟨records ▸ tables.1, ⟨[], ?_⟩, commit_of_records records⟩
  obtain ⟨_, owes⟩ := tagsOwed_iff.mp owed
  have kept := keptQueue_owes l []
  rw [hu]
  exact kept.raise _ _ _ (kept.removeReservation h ((owes l).congr (.of_eq rfl rfl rfl rfl rfl)))

/-- The release of the last reservation (R144, R148). -/
theorem reaches_of_unreserve {h : Handle} {x : Reservation} {tag : Tag} {ps : List Byte}
    (armed : s.session = .armed l g k) (affected : h ∈ k.affected) (found : s.reservation? h = some x)
    (rest : ∀ j ∈ k.affected, s.inFlight j = 0 ∧ (j = h ∨ s.reservation? j = none)) :
    s.reaches g l k (unreserveRecord x.holder tag h (s.accepted x.holder tag ps)) := by
  obtain ⟨u, hu⟩ : ∃ u, u = removeReservation h (s.accepted x.holder tag ps) := ⟨_, rfl⟩
  have armed' : u.session = .armed l g k := by rw [hu]; exact armed
  have rest' : ∀ j ∈ k.affected, u.inFlight j = 0 ∧ u.reservation? j = none := fun j hj => by
    obtain ⟨idle, none_⟩ := rest j hj
    rw [hu]
    exact ⟨idle, reservation?_removeReservation_of (s := s.accepted x.holder tag ps) none_⟩
  obtain ⟨payload, run⟩ : ∃ payload, unreserveRecord x.holder tag h (s.accepted x.holder tag ps) =
      settle [] (s.accepted x.holder tag ps) (respond x.holder tag .ok payload (commitPoint u)) := by
    have found' : (s.accepted x.holder tag ps).reservation? h = some x := found
    rw [unreserveRecord, found']
    dsimp only
    rw [if_pos rfl, ← hu, examine_atRest armed' affected rest']
    exact ⟨_, rfl⟩
  obtain ⟨es, settled⟩ := (settled_settle [] (s.accepted x.holder tag ps)
    (respond x.holder tag .ok payload (commitPoint u))).rest
  have views : SameViews s u := by rw [hu]; exact ⟨.of_eq rfl rfl rfl rfl rfl, rfl⟩
  have records : u.records = s.records := by rw [hu]; rfl
  have queue : (u.link l).queue = (s.link l).queue := by
    rw [hu]
    exact link_accepted_queue s x.holder l tag ps
  rw [run, settled]
  refine reaches_of_commitPoint armed' views ⟨[], by rw [queue, List.append_nil]⟩
    ((sameViews_respond ..).trans (sameViews_engines es _)) (respond_records ..)
    ((flow_respond x.holder tag .ok payload (commitPoint u)).links l).queue (attention_respond ..)
    fun tables owed _ => ?_
  refine ⟨records ▸ tables.1, ⟨tagFor l x.holder tag, ?_⟩, commit_of_records records⟩
  obtain ⟨_, owes⟩ := tagsOwed_iff.mp owed
  have held := (owes l).withTag (l := x.holder) (tag := tag)
    (i := { s.link x.holder with outstanding := (s.link x.holder).outstanding ++ [tag], sent := putOut x.holder ps })
      rfl
  rw [List.append_nil] at held
  rw [hu]
  exact (keptQueue_owes l _).removeReservation h held

/-- The removal of the last transaction, at its deadline (R56, R42). -/
theorem reaches_of_deadline {slot : Nat} {y : Txn} (armed : s.session = .armed l g k) (affected : y.handle ∈ k.affected)
    (found : s.txn? slot = some y) (queued : s.isActive y = false)
    (rest : ∀ j ∈ k.affected, s.reservation? j = none ∧ ∀ z ∈ s.pool, z.handle = j → z.slot = slot) :
    s.reaches g l k (expireTransaction slot s) := by
  obtain ⟨u, hu⟩ : ∃ u, u = removeQueued y (some .deadlineExpired) (s.upTo y.deadline) := ⟨_, rfl⟩
  have views : SameViews s u := by
    rw [hu]
    exact (keptRemoval_sameViews s).removeQueued y _ ⟨.of_eq rfl rfl rfl rfl rfl, rfl⟩
  have armed' : u.session = .armed l g k := views.session.trans armed
  have unused : u.Unused (· ∈ k.affected) := by
    rw [hu]
    refine unused_removeQueued (s := s.upTo y.deadline) _ (fun j hj admitted => ?_) fun z hz on => ?_
    · have pending : s.commitPending j = true := by
        rw [State.commitPending, armed]
        exact decide_eq_true hj
      exact Bool.false_ne_true (admitted.2.symm.trans pending)
    · exact ((rest z.handle on).2 z hz rfl).trans (slot_of_txn? found).symm
  have kept : u.reservations = s.reservations := by
    rw [hu]
    exact (keptRemoval_reservations s.reservations).removeQueued y _ rfl
  have rest' : ∀ j ∈ k.affected, u.inFlight j = 0 ∧ u.reservation? j = none := fun j hj => by
    refine ⟨inFlight_eq_zero.mpr fun x hx same => unused.empty x hx (same ▸ hj), ?_⟩
    rw [State.reservation?, kept]
    exact (rest j hj).1
  have expired : expireTransaction slot s = settle [] s (commitPoint u) := by
    rw [expireTransaction_queued found queued, removeExamined, ← hu, examine_atRest armed' affected rest']
  obtain ⟨es, settled⟩ := (settled_settle [] s (commitPoint u)).rest
  rw [expired, settled]
  refine reaches_of_commitPoint armed' views ?_ (sameViews_engines es _) rfl ⟨[], (List.append_nil _).symm⟩ rfl
    fun tables owed same => ?_
  · rw [hu]
    exact ((flow_removeQueued y _ (s.upTo y.deadline)).links l).queue
  · have keeps : Keeps (s.upTo y.deadline) u := by
      rw [hu]
      exact (keptEnd_keeps _).toKeptRemoval.removeQueued y _ (.refl _)
    have sorted := (keeps.tables (show (s.upTo y.deadline).tablesSorted from tables)).1
    obtain ⟨n, r, member, handle, leaves⟩ := ((affectedSetOfACommit g s).1 y.handle).mp (same ▸ affected)
    have live : s.records.find n = some r := (Table.mem_iff_find tables.1).mp member
    have hr : (s.upTo y.deadline).record? y.handle = some r := by
      rw [handle]
      exact (record?_handleAt s n).trans live
    obtain ⟨r', config, find, _⟩ := records_removeQueued .deadlineExpired hr
    have slot_ : y.handle.slot = n := congrArg Handle.slot handle
    have put : u.records = s.records.put n r' := by
      refine Table.ext sorted (Table.sorted_put _ _ tables.1) fun m => ?_
      rw [hu, find m, Table.find_put, slot_]
      rfl
    obtain ⟨_, owes⟩ := tagsOwed_iff.mp owed
    refine ⟨sorted, ⟨[], ?_⟩, commit_of_rerouted tables.1 live config (fun c hc stays => ?_) put⟩
    · rw [hu]
      exact (keptQueue_owes l []).removeQueued _ (List.mem_of_find?_eq_some found)
        ((owes l).congr (.of_eq rfl rfl rfl rfl rfl))
    · rcases leaves c hc with segment | address
      · exact segment stays.1.symm
      · exact address stays.2.symm

end

/-- Settles O32: each of the three events frees the last affected record, and its examination takes the commit point. -/
theorem restReachesTheCommitPoint : Obligations.RestReachesTheCommitPoint := by
  intro l g k h s armed affected
  refine ⟨s.reaches g l k, rfl, fun x found rest => ⟨⟨_, rfl, reaches_of_expiry armed affected found rest⟩,
    fun tag ps r ha read hr readable => ⟨_, ?_, reaches_of_unreserve (tag := tag) (ps := ps) armed affected found
      rest⟩⟩,
    fun slot y found on queued rest => ⟨_, rfl, ?_⟩⟩
  · rw [exec_unreserve_record ha read hr, if_neg (by simp [readable])]
  · subst on
    exact reaches_of_deadline armed affected found queued rest

end Sys2Proof.Machine
end

section
/-! SUPPORT. The arbiters at the end of a command (R64 to R69), and the conditions of eligibility (R67). -/
namespace Sys2Proof.Machine

/-! ### What a run reads -/

theorem port_of_mem_queue {s : State} {p : Port} {t : Txn} (h : t ∈ s.queue p) : t.snapshot.port = p := by
  have filtered := (List.mem_filter.mp h).2
  exact of_decide_eq_true (Bool.and_eq_true_iff.mp filtered).1

/-- A run of the arbiter of a port reads no engine but its own. -/
theorem eligible_congr {s : State} {p : Port} {engines : PerPort Engine} (own : engines.get p = s.engine p) {t : Txn}
    (port : t.snapshot.port = p) : { s with engines := engines }.eligible t = s.eligible t := by
  have engine : { s with engines := engines }.engine p = s.engine p := own
  have queue : { s with engines := engines }.queue p = s.queue p := queue_congr rfl engine
  rw [State.eligible, State.eligible, port, State.portPermits, State.portPermits, engine, queue]
  rfl

theorem choice_congr {s : State} {p : Port} {engines : PerPort Engine} (own : engines.get p = s.engine p) :
    { s with engines := engines }.choice p = s.choice p := by
  have engine : { s with engines := engines }.engine p = s.engine p := own
  have queue : { s with engines := engines }.queue p = s.queue p := queue_congr rfl engine
  have eligible : (s.queue p).filter { s with engines := engines }.eligible = (s.queue p).filter s.eligible :=
    List.filter_congr fun t ht => eligible_congr own (port_of_mem_queue ht)
  rw [State.choice, State.choice, queue, eligible, engine]

/-! ### The choice -/

theorem choice_eq_some_iff {s : State} {p : Port} {t : Txn} : s.choice p = some t ↔
    ∃ front c back, (s.engine p).pointer.order = front ++ c :: back ∧
      ((s.queue p).filter s.eligible).find? (fun u => decide (u.origin.originClass = c)) = some t ∧
      ∀ d ∈ front, ((s.queue p).filter s.eligible).find? (fun u => decide (u.origin.originClass = d)) = none := by
  rw [State.choice]
  exact List.findSome?_eq_some_iff

theorem choice_eq_none {s : State} {p : Port} (h : ∀ t ∈ s.queue p, s.eligible t = false) : s.choice p = none := by
  have empty : (s.queue p).filter s.eligible = [] :=
    List.filter_eq_nil_iff.mpr fun t ht => by simp [h t ht]
  rw [State.choice, empty]
  exact List.findSome?_eq_none_iff.mpr fun _ _ => rfl

theorem mem_order (c d : OriginClass) : d ∈ c.order := by
  cases c <;> cases d <;> decide

theorem choice_isSome {s : State} {p : Port} {t : Txn} (member : t ∈ s.queue p) (eligible : s.eligible t = true) :
    ∃ u, s.choice p = some u := by
  refine Option.isSome_iff_exists.mp (List.findSome?_isSome_iff.mpr ⟨t.origin.originClass, mem_order _ _, ?_⟩)
  exact List.find?_isSome.mpr ⟨t, List.mem_filter.mpr ⟨member, eligible⟩, decide_eq_true rfl⟩

theorem mem_queue_of_choice {s : State} {p : Port} {t : Txn} (h : s.choice p = some t) : t ∈ s.queue p := by
  obtain ⟨_, _, _, _, found, _⟩ := choice_eq_some_iff.mp h
  exact List.mem_of_mem_filter (List.mem_of_find?_eq_some found)

/-- The chosen transaction is the oldest eligible one of the first class of the turn that has one (R68). -/
theorem choice_spec {s : State} {p : Port} {t : Txn} (h : s.choice p = some t) :
    ∃ older newer front back, s.queue p = older ++ t :: newer ∧ s.eligible t = true ∧
      (s.engine p).pointer.order = front ++ t.origin.originClass :: back ∧
      (∀ u ∈ s.queue p, s.eligible u = true → u.origin.originClass ∉ front) ∧
      ∀ u ∈ older, s.eligible u = true → u.origin.originClass ≠ t.origin.originClass := by
  obtain ⟨front, c, back, order, found, passed⟩ := choice_eq_some_iff.mp h
  rw [List.find?_filter, List.find?_eq_some_iff_append] at found
  obtain ⟨taken, older, newer, queue, left⟩ := found
  obtain ⟨eligible, classed⟩ := of_decide_eq_true taken
  obtain rfl := of_decide_eq_true classed
  refine ⟨older, newer, front, back, queue, eligible, order, fun u hu able inFront => ?_, fun u hu able same => ?_⟩
  · have none_ := List.find?_eq_none.mp (passed _ inFront) u (List.mem_filter.mpr ⟨hu, able⟩)
    exact none_ (decide_eq_true rfl)
  · have not := left u hu
    rw [decide_eq_true ⟨able, decide_eq_true same⟩] at not
    exact absurd not (by decide)

/-! ### The run -/

theorem idle_iff {e : Engine} : e.idle = true ↔ e.config.enable = true ∧ e.work = none := by
  rw [Engine.idle, Bool.and_eq_true, Option.isNone_iff_eq_none]

theorem idle_eq_false {e : Engine} : e.idle = false ↔ e.config.enable = false ∨ e.work ≠ none := by
  rw [← Bool.not_eq_true, idle_iff, not_and_or, Bool.not_eq_true]

theorem runArbiter_chooses {s : State} {p : Port} {t : Txn} (idle : (s.engine p).idle = true)
    (chosen : s.choice p = some t) : runArbiter p s = startWork p t s := by
  rw [runArbiter, if_pos idle, chosen]

theorem runArbiter_none {s : State} {p : Port} (none_ : s.choice p = none) : runArbiter p s = s := by
  rw [runArbiter, none_]
  exact ite_self s

/-- The engine after a run, from the state before it: no other engine matters. -/
theorem engine_runArbiter_congr {s : State} {p : Port} {engines : PerPort Engine} (own : engines.get p = s.engine p) :
    (runArbiter p { s with engines := engines }).engine p = (runArbiter p s).engine p := by
  have engine : { s with engines := engines }.engine p = s.engine p := own
  cases idle : (s.engine p).idle
  · rw [runArbiter_busy (by rwa [engine]), runArbiter_busy idle, engine]
  · cases chosen : s.choice p with
    | none => rw [runArbiter_none (by rwa [choice_congr own]), runArbiter_none chosen, engine]
    | some t =>
      have port := port_of_mem_queue (mem_queue_of_choice chosen)
      have first : { s with engines := engines }.firstWork t = s.firstWork t := by
        rw [State.firstWork, State.firstWork, port, engine]
        rfl
      rw [runArbiter_chooses (by rwa [engine]) (by rwa [choice_congr own]), runArbiter_chooses idle chosen, startWork,
        startWork, State.engine_setEngine, State.engine_setEngine, if_pos rfl, if_pos rfl, engine, first]

theorem engine_runArbiter_ne {s : State} {p q : Port} (h : q ≠ p) : (runArbiter p s).engine q = s.engine q := by
  rw [runArbiter]
  split
  · split
    · rw [startWork, State.engine_setEngine, if_neg h]
    · rfl
  · rfl

/-- The end of a command on one port: its engine after it, read from the state before. -/
def settledEngine (told : List Port) (before s : State) (p : Port) : Engine :=
  if p ∈ told ∨ arbiterDue before s p = true then (runArbiter p s).engine p else s.engine p

theorem settledEngine_step {told : List Port} {before s t : State} {p : Port} (settled : Settled s t)
    (own : t.engine p = s.engine p) :
    (if decide (p ∈ told) || arbiterDue before s p then runArbiter p t else t).engine p =
      settledEngine told before s p := by
  obtain ⟨engines, rfl⟩ := settled.rest
  rw [settledEngine]
  refine (apply_ite (fun u : State => u.engine p) _ _ _).trans (if_congr (by simp) ?_ own)
  exact engine_runArbiter_congr own

theorem engine_settleStep_ne {c : Bool} {t : State} {p q : Port} (h : q ≠ p) :
    (if c = true then runArbiter p t else t).engine q = t.engine q := by
  split
  · exact engine_runArbiter_ne h
  · rfl

theorem settled_settleStep (c : Bool) (t : State) (p : Port) : Settled t (if c = true then runArbiter p t else t) := by
  split
  · exact settled_runArbiter p t
  · exact .refl t

/-- The engines after the runs on some ports, each of which runs once. -/
theorem engine_settleRuns {told : List Port} {before s : State} : ∀ (ps : List Port) {t : State}, ps.Nodup →
    Settled s t → (∀ p ∈ ps, t.engine p = s.engine p) → ∀ q,
    (ps.foldl (fun t p => if decide (p ∈ told) || arbiterDue before s p then runArbiter p t else t) t).engine q =
      if q ∈ ps then settledEngine told before s q else t.engine q := by
  intro ps
  induction ps with
  | nil => exact fun _ _ _ _ => rfl
  | cons p rest ih =>
    intro t distinct settled same q
    obtain ⟨fresh, later⟩ := List.nodup_cons.mp distinct
    rw [List.foldl_cons, ih later (settled.trans (settled_settleStep _ t p)) (fun r hr => ?_) q]
    · by_cases here : q = p
      · subst here
        rw [if_neg fresh, if_pos List.mem_cons_self,
          settledEngine_step settled (same _ List.mem_cons_self)]
      · rw [engine_settleStep_ne here]
        exact if_congr (by simp [here]) rfl rfl
    · rw [engine_settleStep_ne (fun e => fresh (by rwa [e] at hr))]
      exact same r (List.mem_cons_of_mem _ hr)

theorem mem_ports (p : Port) : p ∈ Port.all := by
  cases p <;> decide

theorem engine_settle_eq (told : List Port) (before s : State) (p : Port) :
    (settle told before s).engine p = settledEngine told before s p := by
  rw [settle, engine_settleRuns Port.all (by decide) (.refl s) (fun _ _ => rfl), if_pos (mem_ports p)]

/-- The first step of a chosen transaction of the port, with the mux set and the open channel of its port. -/
theorem firstWork_eq {s : State} {p : Port} {t : Txn} (port : t.snapshot.port = p) :
    s.firstWork t = match selectionWrites (s.engine p).openChannel t.snapshot.path (s.muxSet p) with
      | [] => if s.pollBusy t.handle = true then .polling t.slot else .transferring t.slot
      | writes => .selecting t.slot writes := by
  rw [State.firstWork, port]
  rfl

/-! ### Eligibility -/

theorem takeWhile_older {older newer : List Txn} {t : Txn} (fresh : t ∉ older) :
    (older ++ t :: newer).takeWhile (fun u => decide (u ≠ t)) = older := by
  have passes : ∀ u ∈ older, decide (u ≠ t) = true := fun u hu => decide_eq_true fun e => fresh (by rwa [e] at hu)
  rw [List.takeWhile_append_of_pos passes, List.takeWhile_cons_of_neg (by simp), List.append_nil]

theorem recovered_iff {s : State} {h : Handle} : s.recovered h = true ↔ ∀ r, s.record? h = some r →
    r.runtime.writeBusy = none ∨ ∃ window, r.runtime.writeBusy = some (.poll window none) := by
  rw [State.recovered]
  cases found : s.record? h with
  | none => simp
  | some r =>
    rcases busy : r.runtime.writeBusy with _ | ⟨e⟩ | ⟨window, _ | wait⟩ <;> simp [busy, WriteBusy.holdsBack]

theorem portPermits_iff {s : State} {p : Port} {o : Operation} : s.portPermits p o = true ↔
    (s.unit p).state = .clear ∨ (s.engine p).config.mode = .flagOnly ∨
      (s.engine p).config.mode = .blockWrites ∧ o ≠ .write := by
  rw [State.portPermits]
  cases (s.unit p).state <;> cases (s.engine p).config.mode <;> simp [containmentPermits]

theorem eligible_iff {s : State} {p : Port} {t : Txn} {older newer : List Txn} (queue : s.queue p = older ++ t :: newer)
    (fresh : t ∉ older) : s.eligible t = true ↔
      (∀ u ∈ older, u.handle = t.handle → u.origin.same t.origin = false) ∧ s.recovered t.handle = true ∧
        s.portPermits p t.operation = true := by
  have port : t.snapshot.port = p := port_of_mem_queue (by rw [queue]; simp)
  rw [State.eligible, port]
  rw [queue, takeWhile_older fresh, Bool.and_eq_true, Bool.and_eq_true, and_assoc, Bool.not_eq_true',
    List.any_eq_false]
  refine and_congr_left' (forall₂_congr fun u _ => ?_)
  rw [Bool.and_eq_true, decide_eq_true_eq, not_and', Bool.not_eq_true]

theorem same_iff (x y : Origin) : x.same y = true ↔
    x.originClass = y.originClass ∧ ∀ c i d j, x = .member c i → y = .member d j → c = d := by
  by_cases members : (∃ c i, x = .member c i) ∧ ∃ d j, y = .member d j
  · obtain ⟨⟨c, i, rfl⟩, d, j, rfl⟩ := members
    exact ⟨fun h => ⟨rfl, fun _ _ _ _ hc hd => by cases hc; cases hd; exact of_decide_eq_true h⟩,
      fun h => decide_eq_true (h.2 c i d j rfl rfl)⟩
  · rcases x with ⟨_ | _, _⟩ | ⟨_ | _, _⟩ | ⟨c, i⟩ <;> rcases y with ⟨_ | _, _⟩ | ⟨_ | _, _⟩ | ⟨d, j⟩ <;>
      simp [Origin.same, Origin.originClass] at members ⊢

theorem arbiterDue_iff (before after : State) (p : Port) : arbiterDue before after p = true ↔
    ((before.engine p).config.enable = false ∨ (before.engine p).work ≠ none) ∨ before.queue p ≠ after.queue p ∨
      (before.unit p).state ≠ (after.unit p).state ∨ (before.engine p).config.mode ≠ (after.engine p).config.mode := by
  rw [arbiterDue, Bool.or_eq_true, Bool.or_eq_true, Bool.or_eq_true, Bool.not_eq_true', idle_eq_false,
    decide_eq_true_eq, decide_eq_true_eq, decide_eq_true_eq, or_assoc, or_assoc]

/-- Settles O39: the arbiters at the end of a command read each its own engine, so the runs do not meet; the turn and
the conditions are those of the choice and of eligibility. -/
theorem arbiterTakesTheOldestOfTheTurn : Obligations.ArbiterTakesTheOldestOfTheTurn := by
  refine ⟨fun told before s => ?_, fun p s busy => runArbiter_busy (idle_eq_false.mpr busy),
    fun p s none_ => runArbiter_none (choice_eq_none none_), fun p s enabled free ⟨u, member, able⟩ => ?_,
    fun p t older newer s queue fresh => ?_, same_iff, ⟨rfl, rfl, rfl⟩, arbiterDue_iff⟩
  · obtain ⟨engines, rest⟩ := (settled_settle told before s).rest
    refine ⟨engines, rest, fun p => ?_⟩
    have engine : (settle told before s).engine p = engines.get p := by rw [rest]; rfl
    exact engine.symm.trans (engine_settle_eq told before s p)
  · obtain ⟨t, chosen⟩ := choice_isSome member able
    obtain ⟨older, newer, front, back, queue, eligible, order, passed, left⟩ := choice_spec chosen
    refine ⟨t, older, newer, front, back, queue, eligible, order, passed, left, ?_⟩
    rw [runArbiter_chooses (idle_iff.mpr ⟨enabled, free⟩) chosen, startWork,
      firstWork_eq (port_of_mem_queue (mem_queue_of_choice chosen))] <;> rfl
  · rw [eligible_iff queue fresh, recovered_iff, portPermits_iff]

end Sys2Proof.Machine
end

section
/-! SUPPORT. The writes of a selection and the multiplexers of a port (R11, R70, R71), and the start of a phase (R85 to
R87). -/
namespace Sys2Proof.Machine

/-! ### Selection writes -/

theorem map_zeroWrites : ∀ ms : List BusAddress,
    (zeroWrites ms).map (fun w => (w.mux, w.channel)) = ms.map fun m => (m, none)
  | [] => rfl
  | [_] => rfl
  | _ :: b :: rest => congrArg (List.cons _) (map_zeroWrites (b :: rest))

/-- Only the last zero write leaves a known open channel (R70). -/
theorem zeroWrites_append (m : BusAddress) : ∀ ms : List BusAddress,
    zeroWrites (ms ++ [m]) = (ms.map fun a => ⟨a, none, .unknown⟩) ++ [⟨m, none, .none⟩]
  | [] => rfl
  | [_] => rfl
  | _ :: b :: rest => congrArg (List.cons _) (zeroWrites_append m (b :: rest))

theorem mask_eq (w : SelectionWrite) : w.mask = match w.channel with | none => 0 | some c => 1#8 <<< c.toNat := by
  rw [SelectionWrite.mask]
  rfl

/-! ### The mux set -/

theorem mem_insertAddress (a m : BusAddress) : ∀ ms : List BusAddress, m ∈ insertAddress a ms ↔ m = a ∨ m ∈ ms
  | [] => List.mem_cons
  | b :: rest => by
    rw [insertAddress]
    split_ifs with below same
    · exact List.mem_cons
    · subst same
      rw [List.mem_cons, ← or_assoc, or_self]
    · rw [List.mem_cons, List.mem_cons, mem_insertAddress a m rest, or_left_comm]

theorem ascending_insertAddress (a : BusAddress) : ∀ ms : List BusAddress,
    ms.Pairwise (fun x y => x.toNat < y.toNat) → (insertAddress a ms).Pairwise fun x y => x.toNat < y.toNat
  | [], _ => List.pairwise_singleton _ a
  | b :: rest, sorted => by
    obtain ⟨first, later⟩ := List.pairwise_cons.mp sorted
    rw [insertAddress]
    split_ifs with below same
    · refine List.pairwise_cons.mpr ⟨fun m hm => ?_, sorted⟩
      rcases List.mem_cons.mp hm with rfl | hm
      · exact below
      · exact below.trans (first m hm)
    · exact sorted
    · refine List.pairwise_cons.mpr ⟨fun m hm => ?_, ascending_insertAddress a rest later⟩
      rcases (mem_insertAddress a m rest).mp hm with rfl | hm
      · have ne : m.toNat ≠ b.toNat := fun e => same (BitVec.eq_of_toNat_eq e)
        omega
      · exact first m hm

theorem ascending_foldr (ms : List BusAddress) :
    (ms.foldr insertAddress []).Pairwise fun x y => x.toNat < y.toNat := by
  induction ms with
  | nil => exact List.Pairwise.nil
  | cons a rest ih => exact ascending_insertAddress a _ ih

theorem mem_foldr_insertAddress (m : BusAddress) (ms : List BusAddress) : m ∈ ms.foldr insertAddress [] ↔ m ∈ ms := by
  induction ms with
  | nil => rfl
  | cons a rest ih => rw [List.foldr_cons, mem_insertAddress, ih, List.mem_cons]

theorem mem_muxSet {s : State} {p : Port} {m : BusAddress} :
    m ∈ s.muxSet p ↔ ∃ n g, (n, g) ∈ s.segments ∧ g.port = p ∧ g.mux = m := by
  rw [State.muxSet, mem_foldr_insertAddress, List.mem_map]
  constructor
  · rintro ⟨⟨n, g⟩, member, rfl⟩
    obtain ⟨held, port⟩ := List.mem_filter.mp member
    exact ⟨n, g, held, of_decide_eq_true port, rfl⟩
  · rintro ⟨n, g, held, port, rfl⟩
    exact ⟨(n, g), List.mem_filter.mpr ⟨held, decide_eq_true port⟩, rfl⟩

/-- Settles O40, by cases on the open channel. -/
theorem selectionWrites_holds : Obligations.SelectionWrites := by
  refine ⟨fun _ _ => rfl, fun x ms => ⟨rfl, ?_, fun m c => rfl⟩, fun _ => rfl, fun x ms m => ?_, mask_eq,
    fun p s => ⟨List.pairwise_map.mpr (ascending_foldr _), fun m => mem_muxSet⟩⟩
  · exact (List.map_append).trans (congrArg (· ++ _) (map_zeroWrites ms))
  · refine (congrArg (· ++ [maskWrite x]) (zeroWrites_append m ms)).trans (List.append_assoc _ _ _)

/-! ### The start of a phase -/

theorem startPhase_starts {p : Port} {ph : Phase} {s : State} (next : s.nextPhase? p = some ph)
    (ready : (s.engine p).phase = none) (free : (s.line p).free = true) :
    startPhase p s = putLines p true false false
      ({ s with now := max s.now ((s.line p).since + ph.speed.gap) }.setEngine p
        { s.engine p with phase := some ph }) := by
  rw [startPhase, next]
  dsimp only
  rw [ready, free, if_pos (by decide)]
  rfl

theorem startPhase_waits {p : Port} {s : State}
    (h : s.activeTxn? p = none ∨ (s.engine p).phase ≠ none ∨ (s.line p).free = false) : startPhase p s = s := by
  rw [startPhase]
  cases next : s.nextPhase? p with
  | none => rfl
  | some ph =>
    dsimp only
    refine if_neg fun ready => ?_
    obtain ⟨phase, free⟩ := Bool.and_eq_true_iff.mp ready
    rcases h with none_ | busy | taken
    · rw [State.nextPhase?, none_] at next
      cases next
    · exact busy (Option.isNone_iff_eq_none.mp phase)
    · exact absurd (taken.symm.trans free) (by decide)

theorem free_iff {x : Lines} : x.free = true ↔ x.scl = true ∧ x.sda = true ∧ x.otherMaster = false := by
  rw [Lines.free, Bool.and_eq_true, Bool.and_eq_true, Bool.not_eq_true', and_assoc]

theorem free_eq_false {x : Lines} (h : x.scl = false ∨ x.sda = false ∨ x.otherMaster = true) : x.free = false := by
  rw [← Bool.not_eq_true, free_iff]
  rintro ⟨scl, sda, other⟩
  rcases h with low | low | held
  · exact absurd (low.symm.trans scl) (by decide)
  · exact absurd (low.symm.trans sda) (by decide)
  · exact absurd (held.symm.trans other) (by decide)

/-- The phase that comes next, by the work in hand (R72, R87, R101). -/
theorem nextPhase_eq {p : Port} {t : Txn} {ph : Phase} {s : State} (active : s.activeTxn? p = some t)
    (stretch : ph.stretch = (s.engine p).config.tStretch)
    (work : (∃ w rest, (s.engine p).work = some (.selecting t.slot (w :: rest)) ∧
        ph.items = [.start, .send (w.mux ++ 0#1), .send w.mask, .stop] ∧
        ph.speed = s.writeSpeed p t.snapshot.path w.mux) ∨
      ((s.engine p).work = some (.polling t.slot) ∧
        ph.items = [.start, .send (t.snapshot.address ++ 0#1), .stop] ∧ ph.speed = t.snapshot.speed) ∨
      ((s.engine p).work = some (.transferring t.slot) ∧ ph.items = transferShape t ∧
        ph.speed = t.snapshot.speed)) : s.nextPhase? p = some ph := by
  obtain ⟨items, speed, limit⟩ := ph
  obtain rfl : limit = (s.engine p).config.tStretch := stretch
  rw [State.nextPhase?, active]
  rcases work with ⟨w, rest, selecting, rfl, rfl⟩ | ⟨polling, rfl, rfl⟩ | ⟨transferring, rfl, rfl⟩
  · rw [selecting]
    rfl
  · rw [polling]
    rfl
  · rw [transferring]

/-- Settles O41, by cases on the work in hand. -/
theorem phaseStart : Obligations.PhaseStart := by
  refine ⟨fun p t ph s active ready scl sda other stretch work => ?_, fun p s h => ?_, fun t => ?_⟩
  · exact congrArg Host.Outcome.next
      (startPhase_starts (nextPhase_eq active stretch work) ready (free_iff.mpr ⟨scl, sda, other⟩))
  · refine congrArg Host.Outcome.next (startPhase_waits ?_)
    rcases h with none_ | busy | taken
    · exact .inl none_
    · exact .inr (.inl busy)
    · exact .inr (.inr (free_eq_false taken))
  · refine ⟨(indexBytes t.snapshot.indexWidth t.index).map .send, ?_, fun probe => ?_, fun write => ?_,
      fun read plain => ?_, fun read indexed => ?_⟩
    · rcases t.snapshot.indexWidth with _ | _ | _ | n <;> rfl
    · rw [transferShape, probe]
      rfl
    · rw [transferShape, write]
      rfl
    · rw [transferShape, read]
      exact if_pos plain
    · rw [transferShape, read]
      exact if_neg indexed

end Sys2Proof.Machine
end

section
/-! SUPPORT. The expiries of the recovery timers (R100, R102) and of the containment units, and the pins they watch
(R123 to R128). -/
namespace Sys2Proof.Machine

/-! ### Write-busy forms -/

theorem writeBusy?_none {s : State} {h : Handle} (found : s.record? h = none) : s.writeBusy? h = none := by
  rw [State.writeBusy?, found, Option.bind_none]

theorem writeBusy?_some {s : State} {h : Handle} {r : Record} (found : s.record? h = some r) :
    s.writeBusy? h = r.runtime.writeBusy := by
  rw [State.writeBusy?, found, Option.bind_some]

theorem toldPorts_eq {s : State} {h : Handle} {r : Record} (found : s.record? h = some r) :
    s.toldPorts h = [portOfSegment s.segments r.config.segment] := by
  rw [State.toldPorts, found]
  rfl

theorem setWriteBusy_record {s : State} {h : Handle} {r : Record} (found : s.record? h = some r)
    (w : Option WriteBusy) :
    setWriteBusy h w s = { s with records := s.records.put h.slot (r.withWriteBusy w) } := by
  have set : setWriteBusy h w s = s.setRuntime h { r.runtime with writeBusy := w } := by
    unfold setWriteBusy
    rw [found]
  exact set.trans (setRuntime_record found _)

/-- The end of a form, or of its poll-wait, at its expiry (R69, R100, R102). -/
theorem settle_setWriteBusy {s : State} {h : Handle} {r : Record} (found : s.record? h = some r) (expiry : Time)
    (w : Option WriteBusy) : settle (s.toldPorts h) s (setWriteBusy h w (s.upTo expiry)) =
      settle [portOfSegment s.segments r.config.segment] s { s with
        now := max s.now expiry, records := s.records.put h.slot (r.withWriteBusy w) } := by
  rw [toldPorts_eq found, setWriteBusy_record (s := s.upTo expiry) found]
  rfl

section
variable {s : State} {h : Handle}

theorem expireTimed_timed {e : Time} (form : s.writeBusy? h = some (.timed e)) :
    expireTimed h s = settle (s.toldPorts h) s (setWriteBusy h none (s.upTo e)) := by
  unfold expireTimed
  rw [form]

theorem expireTimed_other (form : ∀ e, s.writeBusy? h ≠ some (.timed e)) : expireTimed h s = s := by
  unfold expireTimed
  split
  · next e found => exact absurd found (form e)
  · rfl

theorem endPollWait_waiting {e w : Time} (form : s.writeBusy? h = some (.poll e (some w))) :
    endPollWait h s = settle (s.toldPorts h) s (setWriteBusy h (some (.poll e none)) (s.upTo w)) := by
  unfold endPollWait
  rw [form]

theorem endPollWait_other (form : ∀ e w, s.writeBusy? h ≠ some (.poll e (some w))) : endPollWait h s = s := by
  unfold endPollWait
  split
  · next e w found => exact absurd found (form e w)
  · rfl

theorem endPollWindow_poll {e : Time} {x : Option Time} (form : s.writeBusy? h = some (.poll e x)) :
    endPollWindow h s = settle (s.toldPorts h) s (setWriteBusy h none (s.upTo e)) := by
  unfold endPollWindow
  rw [form]

theorem endPollWindow_other (form : ∀ e x, s.writeBusy? h ≠ some (.poll e x)) : endPollWindow h s = s := by
  unfold endPollWindow
  split
  · next e x found => exact absurd found (form e x)
  · rfl

/-- No expiry acts on a record without a write-busy form. -/
theorem expiries_of_none (form : s.writeBusy? h = none) : exec (.timedRecoveryExpiry h) s = .next s ∧
    exec (.pollWaitEnd h) s = .next s ∧ exec (.pollWindowEnd h) s = .next s :=
  ⟨congrArg Host.Outcome.next (expireTimed_other (by simp [form])),
    congrArg Host.Outcome.next (endPollWait_other (by simp [form])),
    congrArg Host.Outcome.next (endPollWindow_other (by simp [form]))⟩

end

/-- Settles O48, by cases on the form of the record. -/
theorem recoveryExpiries : Obligations.RecoveryExpiries := by
  refine fun h s => ⟨fun gone => expiries_of_none (writeBusy?_none gone), fun r found => ⟨_, rfl, fun e form => ?_,
    fun e x form => ?_, fun form => expiries_of_none ((writeBusy?_some found).trans form)⟩⟩
  · have field : s.writeBusy? h = some (.timed e) := (writeBusy?_some found).trans form
    exact ⟨congrArg Host.Outcome.next ((expireTimed_timed field).trans (settle_setWriteBusy found e none)),
      congrArg Host.Outcome.next (endPollWait_other (by simp [field])),
      congrArg Host.Outcome.next (endPollWindow_other (by simp [field]))⟩
  · have field : s.writeBusy? h = some (.poll e x) := (writeBusy?_some found).trans form
    refine ⟨congrArg Host.Outcome.next ((endPollWindow_poll field).trans (settle_setWriteBusy found e none)),
      congrArg Host.Outcome.next (expireTimed_other (by simp [field])), fun w waiting => ?_⟩
    subst waiting
    exact congrArg Host.Outcome.next ((endPollWait_waiting field).trans (settle_setWriteBusy found w _))

/-! ### A cause that leaves -/

/-- The unit of a port as a cause leaves it, in a containment state. -/
def withoutCause (p : Port) (c : Cause) (u : Containment) (x : ContainmentState) (s : State) : State :=
  s.setUnit p { u with state := x, causes := u.causes.put c false }

/-- A cause leaves (R122, R127): the state stays while another is present, and is that of the recovery method after the
last. -/
theorem leaveCause_setUnit {p : Port} {c : Cause} {u : Containment} {s : State} (present : u.causes.has c = true) :
    leaveCause p c (s.setUnit p u) =
      if (u.causes.put c false).isEmpty = false then withoutCause p c u u.state s
      else match (s.engine p).config.recovery with
        | .auto => raiseBoth .portCleared (.port p) (withoutCause p c u .clear s)
        | .holdoff => withoutCause p c u (.holdoff (s.after (s.engine p).config.tHold)) s
        | .manual => withoutCause p c u .awaitResume s := by
  rw [leaveCause, State.unit_setUnit_self, if_pos present]
  dsimp only
  rw [State.setUnit_setUnit]
  cases empty : (u.causes.put c false).isEmpty
  · exact (if_neg Bool.false_ne_true).trans (if_pos rfl).symm
  · refine (if_pos rfl).trans (.trans ?_ (if_neg (by decide)).symm)
    rw [recover, State.engine_setUnit]
    cases (s.engine p).config.recovery
    · dsimp only
      rw [clearPort_eq, State.setUnit_setUnit, State.unit_setUnit_self]
      rfl
    · dsimp only
      rw [putContainment, State.setUnit_setUnit, State.unit_setUnit_self]
      rfl
    · dsimp only
      rw [putContainment, State.setUnit_setUnit, State.unit_setUnit_self]
      rfl

theorem leaveCause_absent {p : Port} {c : Cause} {s : State} (absent : (s.unit p).causes.has c = false) :
    leaveCause p c s = s := by
  rw [leaveCause]
  exact if_neg (by simp [absent])

theorem put_nonempty_iff (c : CauseSet) (x : Cause) :
    (c.put x false).isEmpty = false ↔ ∃ y, y ≠ x ∧ c.has y = true := by
  rw [← Bool.not_eq_true, CauseSet.isEmpty_iff]
  constructor
  · intro h
    obtain ⟨y, hy⟩ := not_forall.mp h
    rw [CauseSet.has_put] at hy
    split_ifs at hy with same
    · exact absurd rfl hy
    · exact ⟨y, same, by simpa using hy⟩
  · rintro ⟨y, ne, has⟩ none_
    have left := none_ y
    rw [CauseSet.has_put, if_neg ne, has] at left
    exact absurd left (by decide)

theorem others_of_arbitration (c : CauseSet) :
    (c.put .arbitration false).isEmpty = false ↔ c.stuck = true ∨ c.inhibit = true := by
  rw [put_nonempty_iff]
  constructor
  · rintro ⟨_ | _ | _, ne, has⟩
    · exact .inl has
    · exact absurd rfl ne
    · exact .inr has
  · rintro (has | has)
    · exact ⟨.stuck, by decide, has⟩
    · exact ⟨.inhibit, by decide, has⟩

theorem others_of_stuck (c : CauseSet) :
    (c.put .stuck false).isEmpty = false ↔ c.arbitration = true ∨ c.inhibit = true := by
  rw [put_nonempty_iff]
  constructor
  · rintro ⟨_ | _ | _, ne, has⟩
    · exact absurd rfl ne
    · exact .inl has
    · exact .inr has
  · rintro (has | has)
    · exact ⟨.arbitration, by decide, has⟩
    · exact ⟨.inhibit, by decide, has⟩

theorem others_of_inhibit (c : CauseSet) :
    (c.put .inhibit false).isEmpty = false ↔ c.stuck = true ∨ c.arbitration = true := by
  rw [put_nonempty_iff]
  constructor
  · rintro ⟨_ | _ | _, ne, has⟩
    · exact .inl has
    · exact .inr has
    · exact absurd rfl ne
  · rintro (has | has)
    · exact ⟨.stuck, by decide, has⟩
    · exact ⟨.arbitration, by decide, has⟩

/-! ### The expiries of a unit -/

section
variable {p : Port} {s : State}

theorem expireDecay_runs {x : Time} (runs : (s.unit p).decay = some x) :
    expireDecay p s = settle [] s (decayStep p (s.upTo x)) := by
  unfold expireDecay
  rw [runs]

theorem expireFreeLine_counts {since : Time} (counts : (s.unit p).freeLine = .high since) :
    expireFreeLine p s = settle [] s (leaveCause p .stuck ({ s with now := max s.now (since + 10000) }.setUnit p
      { s.unit p with freeLine := .stopped })) := by
  unfold expireFreeLine
  rw [counts]
  rfl

theorem expireHoldoff_runs {x : Time} (runs : (s.unit p).state = .holdoff x) :
    expireHoldoff p s = settle [] s (clearPort p (s.upTo x)) := by
  unfold expireHoldoff
  rw [runs]

/-- The decay of a loss counter above 1 (R124). -/
theorem decayStep_counts (above : 2 ≤ (s.unit p).losses) : decayStep p s =
    s.setUnit p { s.unit p with losses := (s.unit p).losses - 1, decay := some (s.now + 1000000) } := by
  have left : (s.unit p).losses - 1 ≠ 0 := by omega
  rw [decayStep]
  exact (if_neg left).trans (by rw [if_neg left]; rfl)

/-- The decay that brings a loss counter to 0, where its timer stops (R124, R125). -/
theorem decayStep_ends (last : (s.unit p).losses ≤ 1) : decayStep p s =
    leaveCause p .arbitration (s.setUnit p { s.unit p with losses := 0, decay := none }) := by
  have zero : (s.unit p).losses - 1 = 0 := by omega
  rw [decayStep, zero]
  exact if_pos rfl

/-- A change of a unit that leaves its state runs no arbiter. -/
theorem settle_setUnit {u : Containment} {now : Time} (same : u.state = (s.unit p).state) :
    settle [] s ({ s with now := now }.setUnit p u) = { s with now := now }.setUnit p u := by
  refine settle_unchanged rfl rfl fun q => ?_
  rw [State.unit_setUnit]
  split
  · next here => rw [here, same]
  · rfl

theorem expiries_stopped : ((s.unit p).decay = none → exec (.decayExpiry p) s = .next s) ∧
    ((∀ x, (s.unit p).freeLine ≠ .high x) → exec (.freeLineExpiry p) s = .next s) ∧
    ((∀ x, (s.unit p).state ≠ .holdoff x) → exec (.holdoffExpiry p) s = .next s) := by
  refine ⟨fun stopped => congrArg Host.Outcome.next ?_, fun stopped => congrArg Host.Outcome.next ?_,
    fun stopped => congrArg Host.Outcome.next ?_⟩
  · unfold expireDecay
    rw [stopped]
  · unfold expireFreeLine
    split
    · next x counts => exact absurd counts (stopped x)
    · rfl
  · unfold expireHoldoff
    split
    · next x runs => exact absurd runs (stopped x)
    · rfl

end

/-! ### The lines -/

section
variable {p : Port} {scl sda other : Bool} {s : State}

theorem putLines_parts : putLines p scl sda other s =
    (s.setLine p ((putLines p scl sda other s).line p)).setUnit p
      { s.unit p with freeLine := ((putLines p scl sda other s).unit p).freeLine } := by
  rw [putLines]
  simp

theorem freeLine_putLines : ((putLines p scl sda other s).unit p).freeLine =
    (s.unit p).freeLine.seen (scl && sda) s.now := by
  rw [putLines, State.unit_setUnit_self]

theorem lines_putLines : (putLines p scl sda other s).line p = (s.line p).put scl sda other s.now := by
  rw [line_putLines, if_pos rfl]

theorem seen_low {f : FreeLine} {now : Time} (counts : f ≠ .stopped) : f.seen false now = .low := by
  cases f
  · exact absurd rfl counts
  · rfl
  · rfl

theorem otherMaster_start {x : Lines} (high : x.scl = true ∧ x.sda = true) (own : Bool) (idle : own = false) :
    x.otherMasterAfter own true false = true := by
  rw [Lines.otherMasterAfter, high.1, high.2, idle]
  rfl

theorem otherMaster_stop {x : Lines} (scl : x.scl = true) (sda : x.sda = false) (own : Bool) :
    x.otherMasterAfter own true true = false := by
  rw [Lines.otherMasterAfter, scl, sda]
  rfl

end

/-- A change of the lines (R86, R123). -/
theorem exec_portLinesChange (p : Port) (scl sda : Bool) (s : State) : ∃ t, exec (.portLinesChange p scl sda) s =
      .next t ∧ (t.line p).scl = scl ∧ (t.line p).sda = sda ∧
    (t.line p).sclSince = (if (s.line p).scl = scl then (s.line p).sclSince else s.now) ∧
    (t.line p).sdaSince = (if (s.line p).sda = sda then (s.line p).sdaSince else s.now) ∧
    (scl = true → (s.line p).scl = true → (s.line p).sda = true → sda = false → (s.engine p).phase = none →
      (t.line p).otherMaster = true) ∧
    (scl = true → (s.line p).scl = true → (s.line p).sda = false → sda = true → (t.line p).otherMaster = false) ∧
    ((s.unit p).freeLine = .stopped → (t.unit p).freeLine = .stopped) ∧
    ((s.unit p).freeLine ≠ .stopped → scl = false ∨ sda = false → (t.unit p).freeLine = .low) ∧
    ((s.unit p).freeLine = .low → scl = true → sda = true → (t.unit p).freeLine = .high s.now) ∧
    (∀ x, (s.unit p).freeLine = .high x → scl = true → sda = true → (t.unit p).freeLine = .high x) ∧
    t = (s.setLine p (t.line p)).setUnit p { s.unit p with freeLine := (t.unit p).freeLine } := by
  have parts : changeLines p scl sda s = (s.setLine p ((changeLines p scl sda s).line p)).setUnit p
      { s.unit p with freeLine := ((changeLines p scl sda s).unit p).freeLine } := putLines_parts
  refine ⟨_, rfl, ?_⟩
  rw [changeLines, lines_putLines, freeLine_putLines] at parts ⊢
  refine ⟨rfl, rfl, rfl, rfl, ?_, ?_, ?_, ?_, ?_, ?_, parts⟩
  · rintro rfl clock data rfl idle
    exact otherMaster_start ⟨clock, data⟩ _ (by rw [idle]; rfl)
  · rintro rfl clock data rfl
    exact otherMaster_stop clock data _
  · intro stopped
    rw [stopped]
    rfl
  · intro counts low
    rw [Bool.and_eq_false_iff.mpr low]
    exact seen_low counts
  · rintro low rfl rfl
    rw [low]
    rfl
  · rintro x high rfl rfl
    rw [high]
    rfl

theorem exec_inhibitInputChange (p : Port) (high : Bool) (s : State) : exec (.inhibitInputChange p high) s = .next
    (if (s.unit p).inhHigh = high then s
     else s.setUnit p { s.unit p with inhHigh := high, inhSince := s.now }) := rfl

/-- Settles O49, by cases on what expires and on what else holds the port. -/
theorem containmentTimersAndPins : Obligations.ContainmentTimersAndPins := by
  refine ⟨fun p x s runs above => congrArg Host.Outcome.next ?_, fun p x s runs last none_ =>
    congrArg Host.Outcome.next ?_, fun p x s runs last present => ⟨_, _, rfl, rfl, congrArg Host.Outcome.next ?_⟩,
    fun p since s counts present => ⟨_, _, rfl, rfl, congrArg Host.Outcome.next ?_⟩,
    fun p since s counts none_ => congrArg Host.Outcome.next ?_, fun p x s runs => congrArg Host.Outcome.next ?_,
    fun p s => expiries_stopped, exec_portLinesChange, exec_inhibitInputChange⟩
  · rw [expireDecay_runs runs, decayStep_counts (s := s.upTo x) above]
    exact settle_setUnit rfl
  · rw [expireDecay_runs runs, decayStep_ends (s := s.upTo x) last, leaveCause_absent]
    · exact settle_setUnit rfl
    · rw [State.unit_setUnit_self]
      exact none_
  · rw [expireDecay_runs runs, decayStep_ends (s := s.upTo x) last]
    refine congrArg (settle [] s) ((leaveCause_setUnit (by exact present)).trans (if_congr ?_ rfl rfl))
    exact others_of_arbitration _
  · rw [expireFreeLine_counts counts]
    refine congrArg (settle [] s) ((leaveCause_setUnit (by exact present)).trans (if_congr ?_ rfl rfl))
    exact others_of_stuck _
  · rw [expireFreeLine_counts counts, leaveCause_absent]
    rw [State.unit_setUnit_self]
    exact none_
  · rw [expireHoldoff_runs runs]
    rfl

end Sys2Proof.Machine
end

section
/-! SUPPORT. What becomes of selection writes and of recovery polls (R65, R70, R73, R75, R101). -/
namespace Sys2Proof.Machine

/-! ### The end of a phase -/

section
variable {s u : State} {p : Port} {t : Txn} {l : Link} {tag : Tag} {r : Record}

theorem SameWork.runs (h : SameWork p s u) (runs : s.runs p t l tag r) : u.runs p t l tag r :=
  State.runs.frame runs h.slot h.pool h.records h.generations h.waiting h.session (h.outstanding l)

theorem endPhase_eq (p : Port) (s : State) :
    endPhase p s = (releaseLines p s).setEngine p { s.engine p with phase := none } :=
  releaseLines_setEngine ..

theorem endPhase_setEngine (p : Port) (e : Engine) (s : State) :
    endPhase p (s.setEngine p e) = (releaseLines p s).setEngine p { e with phase := none } := by
  rw [endPhase, State.engine_setEngine_self, State.setEngine_setEngine, releaseLines_setEngine]

/-- An engine that goes on with work after a phase runs no arbiter. -/
theorem settle_busy {e : Engine} (busy : e.idle = false) :
    settle [] s ((releaseLines p s).setEngine p e) = (releaseLines p s).setEngine p e := by
  refine settle_engine (p := p) (releaseLines_pool p s) (fun q other => ?_) ?_ fun q => unit_releaseLines_state p q s
  · rw [State.engine_setEngine, if_neg other, engine_releaseLines]
  · rwa [State.engine_setEngine_self]

theorem idle_of_work {e : Engine} {w : Work} (work : e.work = some w) : e.idle = false :=
  idle_eq_false.mpr (.inr (by rw [work]; exact Option.some_ne_none w))

/-- A TRANSACT that ends with a neutral outcome other than SEGMENT_FAULT, whatever state the end is seen in. -/
theorem complete_neutral (o : Status) (runs : s.runs p t l tag r) (neutral : o.counts = false) (failed : o ≠ .ok)
    (plain : o ≠ .busStuck) (plain' : o ≠ .segmentFault) : complete p o [] s = s.completed p t l tag r o [] := by
  rw [complete_runs o [] runs (entryDue_eq_false o runs.2.2.2.1 (.inl neutral)), record_neutral s t r neutral failed,
    dataFor_failed t [] failed, Engine.afterOutcome_plain plain plain', completed_atRest]

end

/-! ### Selection -/

section
variable {s : State} {p : Port} {t : Txn}

theorem nextSelection_eq (s : State) (t : Txn) (rest : List SelectionWrite) :
    s.nextSelection t rest = match rest with
      | [] => if s.pollBusy t.handle = true then .polling t.slot else .transferring t.slot
      | _ => .selecting t.slot rest := by
  cases rest <;> rfl

theorem nextSelection_congr {u : State} (same : u.record? t.handle = s.record? t.handle) (rest : List SelectionWrite) :
    u.nextSelection t rest = s.nextSelection t rest := by
  have polls : u.pollBusy t.handle = s.pollBusy t.handle := by
    rw [State.pollBusy, State.pollBusy, same]
  rw [nextSelection_eq, nextSelection_eq, polls]

theorem acknowledgeWrite_active {n : Nat} {w : SelectionWrite} {rest : List SelectionWrite}
    (active : s.active p t (.selecting n (w :: rest))) (abort : (s.engine p).abortPending = false) :
    acknowledgeWrite p s = settle [] s ((releaseLines p s).setEngine p { s.engine p with
      phase := none, openChannel := w.opens, work := some (s.nextSelection t rest) }) := by
  obtain ⟨u, hu⟩ : ∃ u, u = endPhase p (setOpen p w.opens s) := ⟨_, rfl⟩
  have engine : u.engine p = { s.engine p with phase := none, openChannel := w.opens } := by
    rw [hu, engine_endPhase, setOpen, State.engine_setEngine_self]
  have next : u.nextSelection t rest = s.nextSelection t rest := by
    rw [hu]
    exact nextSelection_congr (record_congr _ (endPhase_records p _) (endPhase_generations p _)) rest
  have rest : u = (releaseLines p s).setEngine p { s.engine p with phase := none, openChannel := w.opens } := by
    rw [hu, setOpen, endPhase_setEngine]
  rw [acknowledgeWrite, active.2, active.1]
  dsimp only
  rw [← hu, atBoundary_own _ (by rw [engine]; exact abort), continueWork, next, engine, rest, State.setEngine_setEngine]

theorem acknowledgeWrite_other (other : ∀ n ws, (s.engine p).work ≠ some (.selecting n ws)) :
    acknowledgeWrite p s = s := by
  rw [acknowledgeWrite]
  split
  · next work => exact absurd work (other _ _)
  · rfl

theorem failSelection_other (other : ∀ n ws, (s.engine p).work ≠ some (.selecting n ws)) :
    failSelection p s = s := by
  rw [failSelection]
  split
  · next work => exact absurd work (other _ _)
  · rfl

/-- The end of a TRANSACT at a failed selection write (R73). -/
theorem complete_segmentFault {l : Link} {tag : Tag} {r : Record} {v : State} (runs : s.runs p t l tag r)
    (same : SameWork p s (v.setEngine p { v.engine p with phase := none })) :
    complete p .segmentFault [] (v.setEngine p { v.engine p with phase := none }) =
      setOpen p .unknown (v.completed p t l tag r .segmentFault []) := by
  have runs' := same.runs runs
  rw [complete_runs .segmentFault [] runs' (entryDue_eq_false .segmentFault runs'.2.2.2.1 (.inl rfl)),
    record_neutral _ t r rfl (by decide), dataFor_failed t [] (by decide), completed_setEngine v p t l tag r _ []
      { v.engine p with phase := none } rfl,
    setOpen, engine_completed, State.engine_setEngine_self]
  rfl

end

/-- Settles O42: a selection write that is acknowledged, one that is not, and neither without a selection in hand. -/
theorem selectionAckAndFault : Obligations.SelectionAckAndFault := by
  refine ⟨fun p t w rest s active abort => congrArg Host.Outcome.next ?_,
    fun p t ws l tag r s runs work abort => congrArg Host.Outcome.next ?_,
    fun p s other => ⟨congrArg Host.Outcome.next (acknowledgeWrite_other other),
      congrArg Host.Outcome.next (failSelection_other other)⟩⟩
  · rw [acknowledgeWrite_active active abort, settle_busy (idle_of_work rfl), nextSelection_eq]
    exact (releaseLines_setEngine ..).symm
  · rw [failSelection_active runs.1 work abort, endPhase_eq]
    have same := (sameWork_endPhase p s).trans
      ((keptUnits_sameWork p _).raiseBoth .segmentFault (.segment t.snapshot.segment) (.refl p (endPhase p s)))
    rw [endPhase_eq] at same
    have engine : (raiseBoth .segmentFault (.segment t.snapshot.segment) (releaseLines p s)).engine p = s.engine p :=
      engine_releaseLines p p s
    refine congrArg (settle [] s) ?_
    have ends := complete_segmentFault
      (v := raiseBoth .segmentFault (.segment t.snapshot.segment) (releaseLines p s)) runs (by rw [engine]; exact same)
    rw [engine] at ends
    exact ends

/-! ### Recovery polls -/

section
variable {s : State} {p : Port} {t : Txn} {r : Record} {w : Time} {x : Option Time}

/-- The state with the record of a handle replaced, where its configuration stays. -/
def putRecord (h : Handle) (r : Record) (s : State) : State :=
  { s with records := s.records.put h.slot r }

theorem engine_putRecord (h : Handle) (r : Record) (s : State) (p : Port) : (putRecord h r s).engine p = s.engine p :=
  rfl

theorem setEngine_putRecord (h : Handle) (r : Record) (s : State) (p : Port) (e : Engine) :
    (putRecord h r s).setEngine p e = putRecord h r (s.setEngine p e) := rfl

theorem putRecord_released (h : Handle) (r : Record) (p : Port) (e : Engine) (s : State) :
    putRecord h r ((releaseLines p s).setEngine p e) =
      { (releaseLines p s).setEngine p e with records := s.records.put h.slot r } := by
  rw [putRecord, State.setEngine_records, releaseLines_records]

theorem settle_busy_record {e : Engine} {h : Handle} {r : Record} (busy : e.idle = false) :
    settle [] s (putRecord h r ((releaseLines p s).setEngine p e)) =
      putRecord h r ((releaseLines p s).setEngine p e) := by
  obtain ⟨u, hu⟩ : ∃ u, u = (releaseLines p s).setEngine p e := ⟨_, rfl⟩
  have pool : u.pool = s.pool := by rw [hu, State.setEngine_pool, releaseLines_pool]
  have engine : ∀ q, q ≠ p → u.engine q = s.engine q := fun q other => by
    rw [hu, State.engine_setEngine, if_neg other, engine_releaseLines]
  have own : (u.engine p).idle = false := by rwa [hu, State.engine_setEngine_self]
  have unit : ∀ q, (u.unit q).state = (s.unit q).state := fun q => by
    rw [hu, State.unit_setEngine, unit_releaseLines_state]
  rw [← hu]
  exact settle_engine (t := putRecord h r u) pool engine own unit

theorem record?_endPhase (p : Port) (h : Handle) (s : State) : (endPhase p s).record? h = s.record? h :=
  record_congr h (endPhase_records p s) (endPhase_generations p s)

theorem setWriteBusy_endPhase (found : s.record? t.handle = some r) (form : Option WriteBusy) :
    setWriteBusy t.handle form (endPhase p s) =
      putRecord t.handle (r.withWriteBusy form) (endPhase p s) :=
  setWriteBusy_record ((record?_endPhase ..).trans found) form

theorem writeBusy?_endPhase (found : s.record? t.handle = some r) :
    (endPhase p s).writeBusy? t.handle = r.runtime.writeBusy :=
  writeBusy?_some ((record?_endPhase ..).trans found)

theorem acknowledgePoll_active {n : Nat} (active : s.active p t (.polling n))
    (abort : (s.engine p).abortPending = false) (found : s.record? t.handle = some r)
    (form : r.runtime.writeBusy = some (.poll w x)) :
    acknowledgePoll p s = settle [] s (putRecord t.handle (r.withWriteBusy none) ((releaseLines p s).setEngine p
      { s.engine p with phase := none, work := some (.transferring t.slot) })) := by
  have removed : removePoll t.handle (endPhase p s) = putRecord t.handle (r.withWriteBusy none) (endPhase p s) := by
    rw [removePoll, writeBusy?_endPhase found, form]
    exact setWriteBusy_endPhase found none
  rw [acknowledgePoll, active.2, active.1]
  refine congrArg (settle [] s) ((atBoundary_endPhase _ abort).trans ?_)
  dsimp only
  rw [removed, continueWork, engine_putRecord, engine_endPhase, endPhase_eq, setEngine_putRecord,
    State.setEngine_setEngine]

/-- A poll that is refused leaves the record in poll-wait (R101, R102). -/
theorem startPollWait_endPhase (found : s.record? t.handle = some r)
    (form : r.runtime.writeBusy = some (.poll w x)) : startPollWait t.handle (endPhase p s) =
      putRecord t.handle (r.withWriteBusy (some (.poll w (some (s.now + 10000))))) (endPhase p s) := by
  rw [startPollWait, writeBusy?_endPhase found, form]
  dsimp only
  rw [setWriteBusy_endPhase found, State.after, endPhase_now]
  rfl

theorem nackPoll_active {n : Nat} (active : s.active p t (.polling n)) (abort : (s.engine p).abortPending = false)
    (found : s.record? t.handle = some r) (form : r.runtime.writeBusy = some (.poll w x)) :
    nackPoll p s = settle [] s (if (s.engine p).config.enable = true then
        requeue p t (putRecord t.handle (r.withWriteBusy (some (.poll w (some (s.now + 10000))))) (endPhase p s))
      else complete p .cancelledDisable []
        (putRecord t.handle (r.withWriteBusy (some (.poll w (some (s.now + 10000))))) (endPhase p s))) := by
  rw [nackPoll, active.2, active.1]
  refine congrArg (settle [] s) ((atBoundary_endPhase _ abort).trans ?_)
  rw [refusePoll, startPollWait_endPhase found form]
  refine if_congr ?_ rfl rfl
  rw [engine_putRecord, engine_endPhase]

theorem acknowledgePoll_other (other : ∀ n, (s.engine p).work ≠ some (.polling n)) : acknowledgePoll p s = s := by
  rw [acknowledgePoll]
  split
  · next work => exact absurd work (other _)
  · rfl

theorem nackPoll_other (other : ∀ n, (s.engine p).work ≠ some (.polling n)) : nackPoll p s = s := by
  rw [nackPoll]
  split
  · next work => exact absurd work (other _)
  · rfl

/-- A TRANSACT that touches nothing else is still such a one after its record's runtime has changed. -/
theorem runs_putRecord {l : Link} {tag : Tag} {z : Record} (runs : s.runs p t l tag r) :
    (putRecord t.handle z s).runs p t l tag z := by
  obtain ⟨active, answers, held, found, quiet⟩ := runs
  refine ⟨active, answers, held, ?_, quiet⟩
  have current := current_of_record? found
  change (if s.generation t.handle.slot = t.handle.gen then (s.records.put t.handle.slot z).find t.handle.slot
    else none) = _
  rw [if_pos current.1, Table.find_put_self]

/-- The completion of a TRANSACT replaces its record, whatever it was. -/
theorem completed_putRecord {l : Link} {tag : Tag} {z y : Record} (o : Status) (d : List Byte) :
    (putRecord t.handle z s).completed p t l tag y o d = s.completed p t l tag y o d := by
  have once := Table.put_put s.records t.handle.slot z y
  rw [State.completed, putRecord]
  dsimp only
  rw [once]
  rfl

/-- A TRANSACT whose deadline has passed at its return is completed there (R55), whatever record it leaves. -/
theorem requeue_expired {l : Link} {tag : Tag} {z : Record} (runs : s.runs p t l tag r) (expired : t.deadline ≤ s.now)
    (phase : (s.engine p).phase = none) (abort : (s.engine p).abortPending = false) :
    requeue p t (putRecord t.handle z s) =
      s.completed p t l tag z .deadlineExpired [] := by
  obtain ⟨active, answers, held, found, quiet⟩ := runs
  have rest : (s.engine p).atRest = { s.engine p with work := none } := by
    rw [Engine.atRest, ← phase, ← abort]
  have removed : requeue p t (putRecord t.handle z s) =
      respond l tag .deadlineExpired (t.result [])
        { (s.withoutSlot t.slot).setEngine p (s.engine p).atRest with
          records := s.records.put t.handle.slot z } := by
    rw [rest]
    exact (if_pos expired).trans (removeExamined_answers .deadlineExpired answers quiet)
  rw [removed]
  exact respond_outstanding _ _ _ _ _ held

theorem requeue_waits (before : s.now < t.deadline) :
    requeue p t s = s.setEngine p { s.engine p with work := none } :=
  if_neg (Nat.not_le.mpr before)

end

/-- Settles O43, by cases on the poll's answer, the port's enable and the deadline. -/
theorem recoveryPolls : Obligations.RecoveryPolls := by
  refine ⟨fun p t r w x s active abort found form => congrArg Host.Outcome.next ?_,
    fun p t r w x s active abort found form enabled before => congrArg Host.Outcome.next ?_,
    fun p t l tag r w x s runs work abort form ends => congrArg Host.Outcome.next ?_,
    fun p s other => ⟨congrArg Host.Outcome.next (acknowledgePoll_other other),
      congrArg Host.Outcome.next (nackPoll_other other)⟩⟩
  · rw [acknowledgePoll_active active abort found form, settle_busy_record (idle_of_work rfl), releaseLines_setEngine]
    exact putRecord_released ..
  · have before' : (endPhase p s).now < t.deadline := by rwa [endPhase_now]
    rw [nackPoll_active active abort found form, if_pos enabled,
      requeue_waits (s := putRecord _ _ (endPhase p s)) before', engine_putRecord, engine_endPhase,
      setEngine_putRecord, endPhase_eq, State.setEngine_setEngine, releaseLines_setEngine]
    exact congrArg (settle [] s) (putRecord_released ..)
  · have aborts : ((endPhase p s).engine p).abortPending = false := by
      rw [engine_endPhase]
      exact abort
    have enable : ((endPhase p s).engine p).config.enable = (s.engine p).config.enable := by rw [engine_endPhase]
    have runs' := runs_endPhase runs
    have now := endPhase_now p s
    rw [nackPoll_active ⟨work, runs.1⟩ abort runs.2.2.2.1 form, ← completed_endPhase]
    refine congrArg (settle [] s) ?_
    cases enabled : (s.engine p).config.enable
    · rw [if_neg Bool.false_ne_true, if_pos rfl,
        complete_neutral .cancelledDisable (runs_putRecord runs') rfl (by decide) (by decide) (by decide),
        completed_putRecord]
    · rw [if_pos rfl, if_neg (by decide)]
      refine requeue_expired runs' ?_ (by rw [engine_endPhase]) aborts
      rw [now]
      exact ends.resolve_left (by simp [enabled])

end Sys2Proof.Machine
end

section
/-! SUPPORT. One position of an issue pass, and the passes that report or that place one member (R153, R157, R162). -/
namespace Sys2Proof.Machine

/-! ### Conditions -/

theorem isDone_iff {m : MemberCondition} : m.isDone = true ↔ ∃ o data, m = .finished o data := by
  cases m <;> simp [MemberCondition.isDone]

theorem complete_iff {x : Context} : x.complete = true ↔ ∀ m ∈ x.members, ∃ o data, m.condition = .finished o data := by
  simp only [Context.complete, List.all_eq_true, isDone_iff]

theorem marked_iff {x : Context} {p : Port} : x.marked p = true ↔ ∃ m ∈ x.members, m.condition.marker? = some p := by
  simp [Context.marked]

/-- The member at a position awaits its issue. -/
def Context.pendingAt (x : Context) (i : Nat) (h : Handle) : Prop :=
  x.members[i]? = some { handle := h, condition := .pending }

/-! ### One position -/

section
variable {s : State} {c i : Nat} {x : Context} {h : Handle}

theorem issueMember_passes (found : s.contexts.find c = some x) (issued : ∀ h, ¬ x.pendingAt i h) :
    issueMember c i s = s := by
  rw [issueMember, found]
  dsimp only
  split
  · next h member => exact absurd member (issued h)
  · rfl

theorem issueMember_stale (found : s.contexts.find c = some x) (pending : x.pendingAt i h) (gone : s.record? h = none) :
    issueMember c i s = recordOutcome c i .staleHandle [] s := by
  rw [issueMember, found]
  dsimp only
  rw [pending]
  dsimp only
  rw [gone]

theorem issueMember_record {r : Record} (found : s.contexts.find c = some x) (pending : x.pendingAt i h)
    (record : s.record? h = some r) : issueMember c i s =
      if x.marked (s.portOf r.config) = true then s
      else match memberRefusal s x h r with
        | some outcome => recordOutcome c i outcome [] s
        | none => claimSlot c i x h r s := by
  rw [issueMember, found]
  dsimp only
  rw [pending]
  dsimp only
  rw [record] <;> rfl

theorem issueMember_claims {r : Record} (found : s.contexts.find c = some x) (pending : x.pendingAt i h)
    (record : s.record? h = some r) (unmarked : x.marked (s.portOf r.config) = false)
    (taken : memberRefusal s x h r = none) : issueMember c i s = claimSlot c i x h r s := by
  rw [issueMember_record found pending record, if_neg (by simp [unmarked]), taken]

theorem claimSlot_places {n : Nat} {r : Record} (free : s.freeSlot? = some n) (room : s.attributed x.link < 32)
    (early : s.now < x.deadline) : claimSlot c i x h r s = placeMember c i x h r s := by
  have inTime : x.overdue s.now = false := by
    have later : ¬ x.deadline < s.now := Nat.not_lt.mpr early.le
    have other : ¬ x.deadline = s.now := early.ne'
    rw [Context.overdue, decide_eq_false later, decide_eq_false other]
    rfl
  rw [claimSlot, if_pos ((slotOpen_of_freeSlot? _ free).trans (decide_eq_true room)), inTime]
  rfl

end

/-! ### The walk -/

theorem foldl_fixed {α β : Type} {f : β → α → β} {b : β} : ∀ (l : List α), (∀ a ∈ l, f b a = b) → l.foldl f b = b
  | [], _ => rfl
  | a :: rest, fixed => by
    rw [List.foldl_cons, fixed a List.mem_cons_self]
    exact foldl_fixed rest fun x hx => fixed x (List.mem_cons_of_mem _ hx)

/-- A walk in which one position acts, once. -/
theorem foldl_once {α β : Type} {f : β → α → β} {b c : β} {a : α} (acts : f b a = c) (after : ∀ x, f c x = c)
    (others : ∀ x, x ≠ a → f b x = b) : ∀ l : List α, a ∈ l → l.foldl f b = c
  | [], member => absurd member List.not_mem_nil
  | x :: rest, member => by
    rw [List.foldl_cons]
    by_cases here : x = a
    · rw [here, acts]
      exact foldl_fixed rest fun y _ => after y
    · rw [others x here]
      exact foldl_once acts after others rest ((List.mem_cons.mp member).resolve_left (Ne.symm here))

section
variable {s : State} {c : Nat} {x : Context}

theorem issuePass_eq (found : s.contexts.find c = some x) :
    issuePass c s = closeIfDone c ((List.range x.members.length).foldl (fun t i => issueMember c i t) s) := by
  rw [issuePass, found]

/-- The pass over a context whose members hold outcomes delivers its report (R162). -/
theorem issuePass_reports (found : s.contexts.find c = some x)
    (done : ∀ m ∈ x.members, ∃ o data, m.condition = .finished o data) :
    issuePass c s = { respond x.link x.tag .ok (x.report c s.epoch) s with contexts := s.contexts.remove c } := by
  have walked : (List.range x.members.length).foldl (fun t i => issueMember c i t) s = s := by
    refine foldl_fixed _ fun i _ => issueMember_passes found fun h pending => ?_
    obtain ⟨o, data, eq⟩ := done _ (List.mem_of_getElem? pending)
    cases eq
  rw [issuePass_eq found, walked, closeIfDone_reports found (complete_iff.mpr done)]

/-- The position of the one member that awaits its issue. -/
theorem pendingAt_iff {front back : List Member} {h g : Handle} {i : Nat}
    (members : x.members = front ++ { handle := h, condition := .pending } :: back)
    (rest : ∀ m ∈ front ++ back, ∃ o data, m.condition = .finished o data) :
    x.pendingAt i g ↔ i = front.length ∧ g = h := by
  rw [Context.pendingAt, members]
  rcases Nat.lt_trichotomy i front.length with before | rfl | after
  · rw [List.getElem?_append_left before]
    refine ⟨fun found => ?_, fun same => absurd same.1 before.ne⟩
    obtain ⟨o, data, eq⟩ := rest _ (List.mem_append_left _ (List.mem_of_getElem? found))
    cases eq
  · rw [List.getElem?_append_right (le_refl _), Nat.sub_self, List.getElem?_cons_zero]
    simp [eq_comm]
  · obtain ⟨j, hj⟩ : ∃ j, i - front.length = j + 1 := ⟨i - front.length - 1, by omega⟩
    rw [List.getElem?_append_right after.le, hj, List.getElem?_cons_succ]
    refine ⟨fun found => ?_, fun same => absurd same.1 after.ne'⟩
    obtain ⟨o, data, eq⟩ := rest _ (List.mem_append_right _ (List.mem_of_getElem? found))
    cases eq

theorem unmarked_of_finished {front back : List Member} {h : Handle}
    (members : x.members = front ++ { handle := h, condition := .pending } :: back)
    (rest : ∀ m ∈ front ++ back, ∃ o data, m.condition = .finished o data) (p : Port) : x.marked p = false := by
  refine Bool.eq_false_iff.mpr fun marked => ?_
  obtain ⟨m, member, marker⟩ := marked_iff.mp marked
  rw [members] at member
  rcases List.mem_append.mp member with inFront | here
  · obtain ⟨o, data, eq⟩ := rest m (List.mem_append_left _ inFront)
    rw [eq] at marker
    cases marker
  · rcases List.mem_cons.mp here with rfl | inBack
    · cases marker
    · obtain ⟨o, data, eq⟩ := rest m (List.mem_append_right _ inBack)
      rw [eq] at marker
      cases marker

theorem modify_member {front back : List Member} {m : Member} (g : Member → Member) :
    (front ++ m :: back).modify front.length g = front ++ g m :: back := by
  induction front with
  | nil => rfl
  | cons a rest ih => exact (List.modify_succ_cons ..).trans (congrArg (List.cons a) ih)

/-- The pass over a context with one member left to issue, which passes its checks, places it (R157). -/
theorem issuePass_places {front back : List Member} {h : Handle} {r : Record} {n : Nat}
    (found : s.contexts.find c = some x)
    (members : x.members = front ++ { handle := h, condition := .pending } :: back)
    (rest : ∀ m ∈ front ++ back, ∃ o data, m.condition = .finished o data) (record : s.record? h = some r)
    (taken : memberRefusal s x h r = none) (free : s.freeSlot? = some n) (room : s.attributed x.link < 32)
    (early : s.now < x.deadline) : issuePass c s = placeMember c front.length x h r s := by
  obtain ⟨placed, hp⟩ : ∃ placed, placed = placeMember c front.length x h r s := ⟨_, rfl⟩
  obtain ⟨y, hy⟩ : ∃ y : Context, y = { x with
      members := front ++ { handle := h, condition := .inFlight (s.portOf r.config) } :: back } := ⟨_, rfl⟩
  have held : placed.contexts.find c = some y := by
    rw [hp, placeMember_eq found free]
    refine (Table.find_put_self _ _ _).trans ?_
    rw [members, modify_member, hy]
  have issued : ∀ i g, ¬ y.pendingAt i g := fun i g pending => by
    have member := List.mem_of_getElem? pending
    rw [hy] at member
    rcases List.mem_append.mp member with inFront | here
    · obtain ⟨o, data, eq⟩ := rest _ (List.mem_append_left _ inFront)
      cases eq
    · rcases List.mem_cons.mp here with eq | inBack
      · cases eq
      · obtain ⟨o, data, eq⟩ := rest _ (List.mem_append_right _ inBack)
        cases eq
  have walked : (List.range x.members.length).foldl (fun t i => issueMember c i t) s = placed := by
    refine foldl_once (a := front.length) ?_ (fun i => issueMember_passes held fun g => issued i g) (fun i other =>
      issueMember_passes found fun g pending => other ((pendingAt_iff members rest).mp pending).1) _ ?_
    · rw [issueMember_claims found ((pendingAt_iff members rest).mpr ⟨rfl, rfl⟩) record
        (unmarked_of_finished members rest _) taken, claimSlot_places free room early, hp]
    · rw [List.mem_range, members, List.length_append, List.length_cons]
      omega
  have open_ : y.complete = false := by
    refine Bool.eq_false_iff.mpr fun done => ?_
    have last : (⟨h, .inFlight (s.portOf r.config)⟩ : Member) ∈ y.members := by
      rw [hy]
      exact List.mem_append_right _ List.mem_cons_self
    obtain ⟨o, data, eq⟩ := complete_iff.mp done _ last
    cases eq
  rw [issuePass_eq found, walked, closeIfDone_waits held open_, hp]

end

end Sys2Proof.Machine
end

section
/-! SUPPORT. How the transfer of a transaction ends (R87, R89, R90, R97, R99), and what a member's outcome leads to
(R158, R159, R162). -/
namespace Sys2Proof.Machine

/-! ### The end of a transfer -/

/-- An outcome of a transfer, its completion, and what it leaves of the record. -/
structure State.TransferEnds (s : State) (p : Port) (t : Txn) (r : Record) (c : Instr) (o : Status) (read : List Byte)
    (after : Record) (data : List Byte) : Prop where
  run : exec c s = .next (settle [] s (complete p o data (endPhase p s)))
  delivers : t.dataFor o data = read
  due : entryDue s t o = false
  record : { r with runtime := reported s t o r } = after
  plain : o ≠ .busStuck
  plain' : o ≠ .segmentFault

section
variable {s : State} {p : Port} {t : Txn} {r after : Record} {c : Instr} {o : Status} {read : List Byte}

theorem entryDue_congr {u : State} (o : Status) (same : u.record? t.handle = s.record? t.handle) :
    entryDue u t o = entryDue s t o := by
  unfold entryDue
  rw [same]

theorem reported_plain (probe : t.origin.isProbe = false) (o : Status) :
    ({ r with runtime := reported s t o r } : Record) = { r with runtime := { r.runtime with
      score := scoreAfter r.config.weight r.runtime.score o, writeBusy := writeBusyAfter s t r o } } := by
  rw [reported, if_neg (by simp [probe])]

/-- The record that an OK transfer leaves (R97, R99). -/
theorem reported_ok (probe : t.origin.isProbe = false) : ({ r with runtime := reported s t .ok r } : Record) =
    (r.withScore (r.runtime.score - 1)).withWriteBusy (if t.operation = .write then
        match t.snapshot.recovery, r.config.recovery.window? with
        | .timed, some w => some (.timed (s.now + w * 10000))
        | .poll, some w => some (.poll (s.now + w * 10000) none)
        | _, _ => r.runtime.writeBusy
      else r.runtime.writeBusy) := by
  have busy : writeBusyAfter s t r .ok = if t.operation = .write then
        match t.snapshot.recovery, r.config.recovery.window? with
        | .timed, some w => some (.timed (s.now + w * 10000))
        | .poll, some w => some (.poll (s.now + w * 10000) none)
        | _, _ => r.runtime.writeBusy
      else r.runtime.writeBusy := if_congr (and_iff_left rfl) rfl rfl
  rw [reported_plain probe, busy]
  rfl

theorem transferEnds_of_endsTransfer (active : s.active p t (.transferring t.slot)) (probe : t.origin.isProbe = false)
    (found : s.record? t.handle = some r) (abort : (s.engine p).abortPending = false)
    (ends : s.endsTransfer p t r c o read after) : ∃ data, s.TransferEnds p t r c o read after data := by
  rcases ends with ⟨data, rfl, rfl, rfl, rfl⟩ | ⟨event, rfl, below, rfl⟩
  · exact ⟨t.received data, congrArg Host.Outcome.next (finishTransfer_active data active abort),
      if_congr (and_iff_left rfl) rfl rfl, entryDue_eq_false .ok found (.inl rfl), reported_ok probe, by decide,
      by decide⟩
  · refine ⟨[], ?_⟩
    rcases event with ⟨rfl, sends, rfl⟩ | ⟨rfl, spent, rfl⟩
    · exact ⟨congrArg Host.Outcome.next (nackData_active active abort sends), dataFor_failed t [] (by decide),
        entryDue_eq_false _ found (.inr below), (reported_plain probe _).trans (record_counted s t r rfl), by decide,
        by decide⟩
    · exact ⟨congrArg Host.Outcome.next (nackAddress_active active abort spent), dataFor_failed t [] (by decide),
        entryDue_eq_false _ found (.inr below), (reported_plain probe _).trans (record_counted s t r rfl), by decide,
        by decide⟩

/-- The end of a TRANSACT (R60). -/
theorem exec_endsTransfer_runs {l : Link} {tag : Tag} (runs : s.runs p t l tag r)
    (work : (s.engine p).work = some (.transferring t.slot)) (abort : (s.engine p).abortPending = false)
    (ends : s.endsTransfer p t r c o read after) :
    exec c s = .next (settle [] s ((releaseLines p s).completed p t l tag after o read)) := by
  have probe := isProbe_of_answers runs.2.1
  obtain ⟨data, e⟩ := transferEnds_of_endsTransfer ⟨work, runs.1⟩ probe runs.2.2.2.1 abort ends
  rw [e.run, complete_endPhase o data runs e.due e.plain e.plain', ← reported_plain probe, e.record, e.delivers]

/-- The state in which an outcome is delivered, after the end of a phase. -/
theorem reportedEnd_endPhase (plain : o ≠ .busStuck) (plain' : o ≠ .segmentFault) :
    (endPhase p s).reportedEnd p t r o = (releaseLines p s).ended p t { r with runtime := reported s t o r } := by
  have runtime : reported (endPhase p s) t o r = reported s t o r := by
    rw [reported, reported, writeBusyAfter, writeBusyAfter]
    simp only [State.after, endPhase_now]
  have engine : ((endPhase p s).engine p).atRest = ((releaseLines p s).engine p).atRest := by
    rw [engine_endPhase, engine_releaseLines]
    rfl
  rw [State.reportedEnd, runtime, Engine.afterOutcome_plain plain plain', engine, endPhase, releaseLines_setEngine,
    State.ended]
  simp only [State.withoutSlot, State.setEngine, PerPort.set_set]

/-- The end of a transaction that is no release probe, up to its delivery. -/
theorem exec_endsTransfer_delivers (active : s.active p t (.transferring t.slot)) (probe : t.origin.isProbe = false)
    (found : s.record? t.handle = some r) (quiet : s.quiet t.handle) (abort : (s.engine p).abortPending = false)
    (ends : s.endsTransfer p t r c o read after) : ∃ data, t.dataFor o data = read ∧
      exec c s = .next (settle [] s (deliver t o data ((releaseLines p s).ended p t after))) := by
  obtain ⟨data, e⟩ := transferEnds_of_endsTransfer active probe found abort ends
  have same := sameWork_endPhase p s
  have due : entryDue (endPhase p s) t o = false := by
    rw [entryDue_congr o (record?_endPhase ..)]
    exact e.due
  refine ⟨data, e.delivers, ?_⟩
  rw [e.run, complete_quiet o data (same.activeTxn?.trans active.2) ((record?_endPhase ..).trans found)
    (same.quiet quiet) due, reportedEnd_endPhase e.plain e.plain', e.record]

end

/-! ### The outcome of a member -/

/-- A member after the stop policy (R159). -/
def Member.underPolicy (stops : Bool) (m : Member) : Member :=
  match stops, m.condition with
  | true, .pending => { m with condition := .finished .notAttempted [] }
  | true, .waiting _ => { m with condition := .finished .notAttempted [] }
  | _, _ => m

theorem underPolicy_true (m : Member) : m.underPolicy true = m.endUnissued .notAttempted := by
  obtain ⟨_, _ | _ | _ | _⟩ := m <;> rfl

theorem underPolicy_false (m : Member) : m.underPolicy false = m := rfl

/-- A context after the outcome of a member, and after the stop policy where the outcome takes it (R158, R159). -/
def Context.recorded (x : Context) (i : Nat) (o : Status) (d : List Byte) (stops : Bool) : Context :=
  { x with
    members := (x.members.modify i fun m => { m with condition := .finished o d }).map (Member.underPolicy stops)
    stopFlag := x.stopFlag || stops }

theorem stops_eq (x : Context) (o : Status) :
    x.stops o = decide (x.policy = .stopOnFail ∧ x.stopFlag = false ∧ o ≠ .ok) := by
  rw [Context.stops]
  cases x.stopFlag <;> simp

theorem recordOutcome_found {s : State} {k : Nat} {x : Context} (found : s.contexts.find k = some x)
    (i : Nat) (o : Status) (d : List Byte) : recordOutcome k i o d s = { s with
      contexts := s.contexts.put k (x.recorded i o d (x.stops o))
      waiting := if x.stops o = true then s.waiting.filter fun w => decide (w.1 ≠ k) else s.waiting } := by
  rw [recordOutcome, found]
  dsimp only
  cases stops : x.stops o
  · have same : x.recorded i o d false = x.setMember i (.finished o d) := by
      rw [Context.recorded, Bool.or_false, funext underPolicy_false, List.map_id']
      rfl
    rw [if_neg Bool.false_ne_true, same]
    rfl
  · have ended : x.recorded i o d true =
        { (x.setMember i (.finished o d)).endUnissued .notAttempted with stopFlag := true } := by
      rw [Context.recorded, Bool.or_true, funext underPolicy_true]
      rfl
    rw [if_pos rfl, ended]
    rfl

theorem recordOutcome_eq {s : State} {k : Nat} {x : Context} (found : s.contexts.find k = some x)
    (waiting : s.waiting = []) (i : Nat) (o : Status) (d : List Byte) :
    recordOutcome k i o d s = { s with contexts := s.contexts.put k (x.recorded i o d (x.stops o)) } := by
  rw [recordOutcome_found found, waiting, List.filter_nil, ite_self, ← waiting]

/-- What the transfer of a member leaves before the issue pass that follows (R153, R158). -/
theorem exec_endsTransfer_member {s : State} {p : Port} {t : Txn} {r after : Record} {c : Instr} {o : Status}
    {read : List Byte} {k i : Nat} {x : Context} (active : s.active p t (.transferring t.slot))
    (found : s.record? t.handle = some r) (quiet : s.quiet t.handle) (abort : (s.engine p).abortPending = false)
    (ends : s.endsTransfer p t r c o read after) (origin : t.origin = .member k i) (waits : t.orphan = false)
    (context : s.contexts.find k = some x) : exec c s = .next (settle [] s (issuePass k
      { (releaseLines p s).ended p t after with
        contexts := s.contexts.put k (x.recorded i o read (x.stops o)) })) := by
  have probe : t.origin.isProbe = false := by
    rw [origin]
    rfl
  obtain ⟨data, delivers, run⟩ := exec_endsTransfer_delivers active probe found quiet abort ends
  obtain ⟨u, hu⟩ : ∃ u, u = (releaseLines p s).ended p t after := ⟨_, rfl⟩
  have contexts : u.contexts = s.contexts := hu ▸ releaseLines_contexts p s
  have waiting : u.waiting = [] := (hu ▸ releaseLines_waiting p s : u.waiting = s.waiting).trans quiet.1
  rw [run, ← hu, deliver, waits, if_neg Bool.false_ne_true, deliverTo, origin]
  dsimp only
  rw [delivers, recordOutcome_eq (contexts ▸ context) waiting, contexts]

/-- The pass that finds every member with an outcome: the report (R162). -/
theorem issuePass_answers {u : State} {k : Nat} {y : Context} {contexts : Table Context} {e : BitVec 16} {j : LinkState}
    (done : ∀ m ∈ y.members, ∃ e d, m.condition = .finished e d) (link : u.link y.link = j) (epoch : u.epoch = e)
    (held : y.tag ∈ j.outstanding) : issuePass k { u with contexts := contexts.put k y } =
      { u with contexts := contexts.remove k }.setLink y.link { j with
        outstanding := j.outstanding.erase y.tag
        queue := j.queue ++ [Response.mk y.tag .ok (y.report k e)] } := by
  subst link epoch
  rw [issuePass_reports (Table.find_put_self ..) done, respond_outstanding _ _ _ _ _ (by exact held)]
  dsimp only [State.setLink]
  rw [Table.remove_put]
  rfl

/-- The pass that finds one member to issue, for which a slot is FREE (R157). -/
theorem issuePass_issues {u : State} {k n : Nat} {y : Context} {contexts : Table Context} {front back : List Member}
    {h : Handle} {z : Record} (members : y.members = front ++ { handle := h, condition := .pending } :: back)
    (rest : ∀ m ∈ front ++ back, ∃ e d, m.condition = .finished e d) (record : u.record? h = some z)
    (taken : memberRefusal u y h z = none) (free : u.freeSlot? = some n) (room : u.attributed y.link < 32)
    (early : u.now < y.deadline) : issuePass k { u with contexts := contexts.put k y } = { u with
      contexts := contexts.put k { y with
        members := front ++ { handle := h, condition := .inFlight (u.portOf z.config) } :: back }
      pool := u.pool ++ [
        { slot := n, origin := .member k front.length, attributed := y.link, handle := h
          snapshot := u.snapshot z.config
          operation := y.operation
          index := if z.config.indexWidth = 0 ∨ y.operation = .probe then none else y.index
          length := y.length, data := y.data, deadline := y.deadline, epoch := u.epoch, retries := 0, losses := 0,
          orphan := false }] } := by
  have found : ({ u with contexts := contexts.put k y } : State).contexts.find k = some y := Table.find_put_self ..
  have once := Table.put_put contexts k y { y with
    members := front ++ { handle := h, condition := .inFlight (u.portOf z.config) } :: back }
  have modified := modify_member (m := { handle := h, condition := .pending }) (front := front) (back := back)
    fun m => { m with condition := .inFlight (u.portOf z.config) }
  rw [issuePass_places found members rest record taken free room early, placeMember_eq found free, ← once, ← modified,
    ← members]
  rfl

theorem portOf_congr {s u : State} (segments : u.segments = s.segments) (c : EndpointConfig) :
    u.portOf c = s.portOf c := by
  rw [State.portOf, State.portOf, segments]

theorem snapshot_congr {s u : State} (segments : u.segments = s.segments) (c : EndpointConfig) :
    u.snapshot c = s.snapshot c := by
  rw [State.snapshot, State.snapshot, segments, portOf_congr segments]

/-- Settles O44: a TRANSACT is completed; a member's outcome is recorded, and the pass that follows reports or places.
-/
theorem transferOutcomes : Obligations.TransferOutcomes := by
  refine ⟨fun p t l tag r s runs work abort => ⟨fun data => ?_, fun below => ⟨fun sends => ?_, fun spent => ?_⟩⟩,
    fun p t r after c o read s active probe found quiet abort ends => ⟨fun orphan => ?_,
      fun k i x origin waits context => ?_⟩⟩
  · exact exec_endsTransfer_runs runs work abort (.inl ⟨data, rfl, rfl, rfl, rfl⟩)
  · exact exec_endsTransfer_runs runs work abort (.inr ⟨.inl ⟨rfl, sends, rfl⟩, rfl, below, rfl⟩)
  · exact exec_endsTransfer_runs runs work abort (.inr ⟨.inr ⟨rfl, spent, rfl⟩, rfl, below, rfl⟩)
  · obtain ⟨data, -, run⟩ := exec_endsTransfer_delivers active probe found quiet abort ends
    rw [run, deliver, orphan, probe]
    rfl
  · obtain ⟨u, hu⟩ : ∃ u, u = (releaseLines p s).ended p t after := ⟨_, rfl⟩
    have links : u.links = s.links := hu ▸ releaseLines_links p s
    have epoch : u.epoch = s.epoch := hu ▸ releaseLines_epoch p s
    refine ⟨x.stops o, x.recorded i o read (x.stops o), u, stops_eq x o, rfl, hu,
      hu ▸ exec_endsTransfer_member active found quiet abort ends origin waits context, fun done held => ?_,
      fun front back h z n members rest record taken free room early => ?_⟩
    · exact issuePass_answers done (congrArg (PerLink.get · x.link) links) epoch held
    · have now : u.now = s.now := hu ▸ releaseLines_now p s
      have segments : u.segments = s.segments := hu ▸ releaseLines_segments p s
      have pass := issuePass_issues (k := k) (contexts := s.contexts) members rest record taken free room
        (now.symm ▸ early)
      rw [portOf_congr segments, snapshot_congr segments] at pass
      exact epoch ▸ pass

end Sys2Proof.Machine
end

section
/-! SUPPORT. Retries and losses of arbitration (R89, R91, R124, R125), and held lines (R92 to R96, R122, R123). -/
namespace Sys2Proof.Machine

/-! ### A transaction replaced in its slot -/

section
variable {s : State} {p : Port} {t u : Txn}

theorem find?_map_slot (same : u.slot = t.slot) : ∀ {pool : List Txn}, pool.find? (fun x => decide (x.slot = t.slot)) =
    some t → (pool.map fun x => if x.slot = u.slot then u else x).find? (fun x => decide (x.slot = t.slot)) = some u
  | [], found => nomatch found
  | x :: rest, found => by
    rw [List.map_cons]
    by_cases here : x.slot = t.slot
    · rw [if_pos (here.trans same.symm)]
      exact List.find?_cons_of_pos (decide_eq_true same)
    · rw [List.find?_cons_of_neg (by simpa using here)] at found
      rw [if_neg (fun e => here (e.trans same)), List.find?_cons_of_neg (by simpa using here)]
      exact find?_map_slot same found

theorem txn?_setTxn (same : u.slot = t.slot) (found : s.txn? t.slot = some t) :
    (s.setTxn u).txn? t.slot = some u :=
  find?_map_slot same found

theorem activeTxn?_setTxn (same : u.slot = t.slot) (active : s.activeTxn? p = some t) :
    (s.setTxn u).activeTxn? p = some u := by
  have slot := activeTxn_slot active
  have found : s.txn? t.slot = some t := by
    rw [State.activeTxn?, slot] at active
    exact active
  rw [State.activeTxn?]
  change (s.engine p).activeSlot?.bind (s.setTxn u).txn? = _
  rw [slot]
  exact txn?_setTxn same found

theorem withoutSlot_setTxn (same : u.slot = t.slot) : (s.setTxn u).withoutSlot t.slot = s.withoutSlot t.slot := by
  have pool : (s.pool.map fun x => if x.slot = u.slot then u else x).filter (fun x => decide (x.slot ≠ t.slot)) =
      s.pool.filter fun x => decide (x.slot ≠ t.slot) := by
    rw [List.filter_map]
    have kept : s.pool.filter ((fun x => decide (x.slot ≠ t.slot)) ∘ fun x => if x.slot = u.slot then u else x) =
        s.pool.filter fun x => decide (x.slot ≠ t.slot) := by
      refine List.filter_congr fun x _ => ?_
      by_cases here : x.slot = u.slot
      · simp [here, same]
      · simp [here]
    rw [kept]
    refine (List.map_congr_left fun x hx => ?_).trans (List.map_id _)
    have other := of_decide_eq_true (List.mem_filter.mp hx).2
    exact if_neg fun e => other (e.trans same)
  exact congrArg (fun pool => ({ s with pool := pool } : State)) pool

end

/-! ### A loss that is counted -/

section
variable {s : State} {p : Port} {t : Txn}

/-- A cause joins (R122). -/
theorem joinCause_setUnit {c : Cause} {u : Containment} : joinCause p c (s.setUnit p u) =
    if u.causes.has c = true then s.setUnit p u
    else raiseBoth .portHeld (.port p) (s.setUnit p { u with causes := u.causes.put c true, state := .held }) := by
  rw [joinCause, State.unit_setUnit_self, State.setUnit_setUnit]

/-- The report of a loss (R124, R125). -/
theorem reportLoss_eq : reportLoss p s =
    if (s.engine p).config.lossThreshold ≤ min ((s.unit p).losses + 1) 15 ∧ (s.unit p).causes.arbitration = false then
      raiseBoth .portHeld (.port p) (s.setUnit p { s.unit p with
        losses := min ((s.unit p).losses + 1) 15, decay := some (s.now + 1000000), state := .held
        causes := { (s.unit p).causes with arbitration := true } })
    else s.setUnit p { s.unit p with
      losses := min ((s.unit p).losses + 1) 15, decay := some (s.now + 1000000) } := by
  rw [reportLoss, joinArbitrationIfDue, State.unit_setUnit_self, State.engine_setUnit]
  dsimp only
  rw [joinCause_setUnit]
  by_cases reached : (s.engine p).config.lossThreshold ≤ min ((s.unit p).losses + 1) 15
  · rw [if_pos (by exact reached)]
    have absent_iff : (s.unit p).causes.has .arbitration = true ↔ ¬ (s.unit p).causes.arbitration = false :=
      (Bool.not_eq_false _).symm.to_iff
    by_cases absent : (s.unit p).causes.arbitration = false
    · exact (if_neg fun h => absent_iff.mp h absent).trans (if_pos ⟨reached, absent⟩).symm
    · exact (if_pos (absent_iff.mpr absent)).trans (if_neg fun h => absent h.2).symm
  · exact (if_neg reached).trans (if_neg fun h => reached h.1).symm

theorem unit_yieldBus : ((yieldBus p s).unit p).causes = (s.unit p).causes ∧
    ((yieldBus p s).unit p).losses = (s.unit p).losses := by
  rw [yieldBus, putLines, State.unit_setUnit_self]
  exact ⟨rfl, rfl⟩

theorem engine_yieldBus : (yieldBus p s).engine p = { s.engine p with phase := none, since := s.now } := by
  rw [yieldBus, putLines]
  exact State.engine_setEngine_self ..

theorem sameWork_lost (p : Port) (s : State) : SameWork p s (reportLoss p (yieldBus p s)) :=
  (keptUnits_sameWork p s).reportLoss p (sameWork_yieldBus p s)

theorem abortPending_lost : ((reportLoss p (yieldBus p s)).engine p).abortPending = (s.engine p).abortPending := by
  rw [abortPending_reportLoss, engine_yieldBus]

/-- A loss that is not the transaction's last leads to a new attempt (R91). -/
theorem loseArbitration_again (active : s.activeTxn? p = some t) (abort : (s.engine p).abortPending = false)
    (left : t.losses < 4) : loseArbitration p s =
      settle [] s ((reportLoss p (yieldBus p s)).setTxn { t with losses := t.losses + 1 }) := by
  have left' : t.losses < Config.lossesPerTransaction := left
  obtain ⟨u, hu⟩ : ∃ u, u = reportLoss p (yieldBus p s) := ⟨_, rfl⟩
  have abort' : ((u.setTxn { t with losses := t.losses + 1 }).engine p).abortPending = false := by
    rw [hu]
    exact abortPending_lost.trans abort
  rw [loseArbitration, active]
  dsimp only
  rw [← hu, countLoss, if_pos left', atBoundary_own _ abort', afterLoss, if_pos left']

/-- A loss while an abort waits for the byte boundary is counted, and the abort is made (R91, R133). -/
theorem loseArbitration_aborts (active : s.activeTxn? p = some t) (abort : (s.engine p).abortPending = true) :
    loseArbitration p s =
      settle [] s (complete p .abortedInhibit [] (countLoss t (reportLoss p (yieldBus p s)))) := by
  have abort' : ((countLoss t (reportLoss p (yieldBus p s))).engine p).abortPending = true := by
    rw [countLoss, apply_ite (fun u : State => (u.engine p).abortPending)]
    exact (ite_self _).trans (abortPending_lost.trans abort)
  rw [loseArbitration, active]
  dsimp only
  rw [atBoundary, if_pos abort']

theorem complete_setTxn {u : Txn} {l : Link} {tag : Tag} {r : Record} (o : Status) (runs : s.runs p t l tag r)
    (same : u.slot = t.slot) (origin : u.origin = t.origin) (orphan : u.orphan = t.orphan)
      (handle : u.handle = t.handle)
    (neutral : o.counts = false) (failed : o ≠ .ok) (plain : o ≠ .busStuck) (plain' : o ≠ .segmentFault) :
    complete p o [] (s.setTxn u) = s.completed p u l tag r o [] := by
  obtain ⟨active, ⟨answers, waits⟩, held, found, quiet⟩ := runs
  have runs' : (s.setTxn u).runs p u l tag r :=
    ⟨activeTxn?_setTxn same active, ⟨origin.trans answers, orphan.trans waits⟩, held, by rw [handle]; exact found,
      by rw [handle]; exact quiet⟩
  have pool := withoutSlot_setTxn (s := s) same
  rw [complete_neutral o runs' neutral failed plain plain', State.completed, same, pool]
  rw [State.completed, same]
  rfl

end

/-- Settles O45: a retry, and a loss that is counted and then goes on, ends, or aborts. -/
theorem retryAndLoss : Obligations.RetryAndLoss := by
  refine ⟨fun p t s active abort below => congrArg Host.Outcome.next ?_, fun p t s active => ?_⟩
  · rw [nackAddress, active.2, active.1]
    dsimp only
    rw [if_pos below, atBoundary_endPhase _ abort, retry, endPhase, State.setTxn]
    dsimp only
    rw [releaseLines_pool]
    rfl
  · obtain ⟨held, hh⟩ : ∃ held, held = reportLoss p (yieldBus p s) := ⟨_, rfl⟩
    have same : SameWork p s held := hh ▸ sameWork_lost p s
    refine ⟨yieldBus p s, _, held, rfl, rfl, ?_, fun abort left => congrArg Host.Outcome.next ?_,
      fun l tag r runs => ⟨fun abort spent => congrArg Host.Outcome.next ?_,
        fun abort => congrArg Host.Outcome.next ?_⟩⟩
    · refine hh.trans (reportLoss_eq.trans (if_congr ?_ ?_ ?_))
      · rw [engine_yieldBus, unit_yieldBus.1, unit_yieldBus.2]
      · rw [State.setUnit_setUnit, State.unit_setUnit_self, unit_yieldBus.1, unit_yieldBus.2]
        rfl
      · rw [unit_yieldBus.2]
        rfl
    · rw [loseArbitration_again active abort left, ← hh, State.setTxn, same.pool]
    · rw [loseArbitration_fifth active abort spent, ← hh,
        complete_neutral .arbitrationLost (same.runs runs) rfl (by decide) (by decide) (by decide)]
    · rw [loseArbitration_aborts active abort, ← hh, countLoss]
      by_cases left : t.losses < 4
      · rw [if_pos (by exact left), if_pos left]
        exact congrArg (settle [] s) (complete_setTxn .abortedInhibit (same.runs runs) rfl rfl rfl rfl rfl (by decide)
          (by decide) (by decide))
      · rw [if_neg (by exact left), if_neg left]
        exact congrArg (settle [] s)
          (complete_neutral .abortedInhibit (same.runs runs) rfl (by decide) (by decide) (by decide))

end Sys2Proof.Machine
end

section
/-! SUPPORT. Held lines (R92 to R96, R122, R123), and the inhibit filter with the abort it leads to (R126, R127, R133,
R134). -/
namespace Sys2Proof.Machine

section
variable {s : State} {p : Port} {t : Txn} {l : Link} {tag : Tag} {r : Record}

/-! ### Causes that join -/

theorem setUnit_self (s : State) (p : Port) : s.setUnit p (s.unit p) = s :=
  congrArg (fun units => ({ s with units := units } : State)) (PerPort.set_get s.units p)

theorem joinCause_eq (c : Cause) : joinCause p c s =
    if (s.unit p).causes.has c = true then s
    else raiseBoth .portHeld (.port p)
      (s.setUnit p { s.unit p with causes := (s.unit p).causes.put c true, state := .held }) := rfl

/-- A cause leaves (R122, R127), from the unit as it stands. -/
theorem leaveCause_present {c : Cause} (present : (s.unit p).causes.has c = true) : leaveCause p c s =
    if ((s.unit p).causes.put c false).isEmpty = false then withoutCause p c (s.unit p) (s.unit p).state s
    else match (s.engine p).config.recovery with
      | .auto => raiseBoth .portCleared (.port p) (withoutCause p c (s.unit p) .clear s)
      | .holdoff => withoutCause p c (s.unit p) (.holdoff (s.after (s.engine p).config.tHold)) s
      | .manual => withoutCause p c (s.unit p) .awaitResume s := by
  have whole := setUnit_self s p
  exact (congrArg (leaveCause p c) whole.symm).trans (leaveCause_setUnit present)

/-- STUCK is reported with a line low (R94, R123): it joins, or its measurement starts afresh. -/
theorem reportStuck_low (low : ((s.line p).scl && (s.line p).sda) = false) : reportStuck p s =
    if (s.unit p).causes.stuck = true then s.setUnit p { s.unit p with freeLine := .low }
    else raiseBoth .portHeld (.port p) (s.setUnit p { s.unit p with
      state := .held, freeLine := .low, causes := { (s.unit p).causes with stuck := true } }) := by
  have restarted : ∀ u : State, u.line p = s.line p →
      restartFreeLine p u = u.setUnit p { u.unit p with freeLine := .low } := fun u line => by
    rw [restartFreeLine, line]
    dsimp only
    rw [low]
    rfl
  rw [reportStuck, joinCause_eq]
  by_cases present : (s.unit p).causes.stuck = true
  · rw [if_pos (by exact present), if_pos present, restarted s rfl]
  · obtain ⟨v, hv⟩ : ∃ v, v = s.setUnit p { s.unit p with
        causes := (s.unit p).causes.put .stuck true, state := .held } := ⟨_, rfl⟩
    have line : v.line p = s.line p := hv ▸ rfl
    rw [if_neg (by exact present), if_neg present, ← hv, restarted (raiseBoth .portHeld (.port p) v) line]
    have whole : v.setUnit p { v.unit p with freeLine := .low } = s.setUnit p { s.unit p with
        state := .held, freeLine := .low, causes := { (s.unit p).causes with stuck := true } } := by
      rw [hv, State.setUnit_setUnit, State.unit_setUnit_self]
      rfl
    rw [← whole]
    rfl

/-! ### BUS_STUCK -/

/-- The open channel of a transaction whose phase ends with BUS_STUCK (R94). -/
theorem openAfter_stuck {e : Engine} {n : Nat} (slot : e.activeSlot? = some n) : openAfter e .busStuck =
    match e.work with
    | some (.transferring _) => e.openChannel
    | _ => .unknown := by
  unfold openAfter
  rcases work : e.work with _ | ⟨_, _⟩ | ⟨_⟩ | ⟨_⟩ | ⟨_⟩
  · simp [Engine.activeSlot?, work] at slot
  · rfl
  · rfl
  · rfl
  · simp [Engine.activeSlot?, work, Work.slot?] at slot

/-- The end of a TRANSACT with BUS_STUCK (R94, R96): the bus clear begins. -/
theorem complete_stuck {u : State} {now : Time} (runs : s.runs p t l tag r) (same : SameWork p s u)
    (engine : u.engine p = s.engine p) (time : u.now = now)
    (below : r.runtime.health ≠ .active ∨ min (r.runtime.score + r.config.weight) 63 < r.config.threshold) :
    complete p .busStuck [] u = (u.completed p t l tag (r.withScore (min (r.runtime.score + r.config.weight) 63))
      .busStuck []).setEngine p { s.engine p with
        work := some (.clearing .automatic)
        phase := some { items := [.pulses 9, .stop], speed := .standard, stretch := (s.engine p).config.tStretch }
        since := now
        abortPending := false
        openChannel := match (s.engine p).work with
          | some (.transferring _) => (s.engine p).openChannel
          | _ => .unknown } := by
  have runs' := same.runs runs
  have after : (u.engine p).afterOutcome .busStuck u.now = { s.engine p with
      work := some (.clearing .automatic)
      phase := some { items := [.pulses 9, .stop], speed := .standard, stretch := (s.engine p).config.tStretch }
      since := now
      abortPending := false
      openChannel := openAfter (s.engine p) .busStuck } := by
    rw [engine, time]
    rfl
  rw [complete_runs .busStuck [] runs' (entryDue_eq_false .busStuck runs'.2.2.2.1 (.inr below)),
    record_counted u t r rfl, dataFor_failed t [] (by decide), after, openAfter_stuck (activeTxn_slot runs.1)]

/-- The lines as a held line leaves them, and the clock at the end of its hold. -/
def heldLines (p : Port) (scl sda : Bool) (expiry : Time) (s : State) : State :=
  { putLines p scl sda (s.line p).otherMaster s with now := max s.now expiry }

theorem sameWork_heldLines (scl sda : Bool) (expiry : Time) : SameWork p s (heldLines p scl sda expiry s) :=
  (sameWork_putLines ..).trans (sameWork_upTo expiry _)

theorem causes_heldLines (scl sda : Bool) (expiry : Time) :
    ((heldLines p scl sda expiry s).unit p).causes = (s.unit p).causes := by
  have unit : (heldLines p scl sda expiry s).unit p =
      { s.unit p with freeLine := (s.unit p).freeLine.seen (scl && sda) s.now } := PerPort.get_set_self ..
  rw [unit]

theorem line_heldLines (scl sda : Bool) (expiry : Time) :
    (((heldLines p scl sda expiry s).line p).scl && ((heldLines p scl sda expiry s).line p).sda) = (scl && sda) := by
  have line : (heldLines p scl sda expiry s).line p = (s.line p).put scl sda (s.line p).otherMaster s.now :=
    lines_putLines
  rw [line]
  rfl

theorem engines_reportStuck (u : State) : (reportStuck p u).engines = u.engines ∧ (reportStuck p u).now = u.now := by
  have kept : KeptUnits fun v => v.engines = u.engines ∧ v.now = u.now := ⟨fun _ _ h => h, fun _ _ _ h => h⟩
  exact kept.reportStuck p ⟨rfl, rfl⟩

/-- A held line that ends a transaction, with STUCK joined or measured afresh. -/
theorem completeStuck_held {scl sda : Bool} {expiry : Time} (runs : s.runs p t l tag r)
    (below : r.runtime.health ≠ .active ∨ min (r.runtime.score + r.config.weight) 63 < r.config.threshold) :
    completeStuck p (heldLines p scl sda expiry s) =
      ((reportStuck p (heldLines p scl sda expiry s)).completed p t l tag
        (r.withScore (min (r.runtime.score + r.config.weight) 63)) .busStuck []).setEngine p { s.engine p with
          work := some (.clearing .automatic)
          phase := some { items := [.pulses 9, .stop], speed := .standard, stretch := (s.engine p).config.tStretch }
          since := max s.now expiry
          abortPending := false
          openChannel := match (s.engine p).work with
            | some (.transferring _) => (s.engine p).openChannel
            | _ => .unknown } := by
  have kept := engines_reportStuck (p := p) (heldLines p scl sda expiry s)
  rw [completeStuck]
  exact complete_stuck runs ((sameWork_heldLines scl sda expiry).trans
    ((keptUnits_sameWork p _).reportStuck p (.refl p _))) (congrArg (PerPort.get · p) kept.1) kept.2 below

/-! ### A bus clear that a held clock line ends -/

theorem reachStretchLimit_clearing {kind : ClearKind} (work : (s.engine p).work = some (.clearing kind)) :
    reachStretchLimit p s = settle [] s (endClear p kind false (holdClock p s)) := by
  rw [reachStretchLimit, work]

theorem reachStretchLimit_idle (work : (s.engine p).work = none) : reachStretchLimit p s = s := by
  rw [reachStretchLimit, work]

theorem reachSdaLimit_waits (h : (s.engine p).activeSlot? = none ∨ (s.engine p).phase ≠ none) :
    reachSdaLimit p s = s := by
  rw [reachSdaLimit]
  refine if_neg fun ready => ?_
  obtain ⟨slot, phase⟩ := Bool.and_eq_true_iff.mp ready
  rcases h with none_ | busy
  · rw [none_] at slot
    cases slot
  · exact busy (Option.isNone_iff_eq_none.mp phase)

theorem reachSdaLimit_active (active : s.activeTxn? p = some t) (phase : (s.engine p).phase = none) :
    reachSdaLimit p s = settle [] s (completeStuck p (holdData p s)) := by
  rw [reachSdaLimit]
  refine if_pos ?_
  rw [activeTxn_slot active, phase]
  rfl

theorem endClear_unanswered {kind : ClearKind} (free : Bool) (unasked : ∀ m tag, kind ≠ .manual (some (m, tag))) :
    endClear p kind free s = s.setEngine p (s.engine p).afterClear := by
  unfold endClear answerClear
  split
  · next m tag => exact absurd rfl (unasked m tag)
  · rfl

theorem endClear_answers {m : Link} {g : Tag} (held : g ∈ (s.link m).outstanding) :
    endClear p (.manual (some (m, g))) false s = (s.setEngine p (s.engine p).afterClear).setLink m { s.link m with
      outstanding := (s.link m).outstanding.erase g
      queue := (s.link m).queue ++ [Response.mk g .busStuck []] } :=
  respond_outstanding _ _ _ _ _ held

theorem afterClear_heldLines (scl sda : Bool) (expiry : Time) :
    (heldLines p scl sda expiry s).setEngine p ((heldLines p scl sda expiry s).engine p).afterClear =
      (heldLines p scl sda expiry s).setEngine p { s.engine p with
        work := none, phase := none, openChannel := .unknown } := rfl

end

/-- Settles O46: a limit reached in a transaction, in a bus clear, and without work. -/
theorem busStuck : Obligations.BusStuck := by
  refine ⟨fun p t l tag r c scl sda expiry s runs below event => ?_, fun p kind s work => ?_,
    fun p s idle => congrArg Host.Outcome.next (reachStretchLimit_idle idle),
    fun p s h => congrArg Host.Outcome.next (reachSdaLimit_waits h)⟩
  · have low : (scl && sda) = false := by
      rcases event with ⟨-, rfl, -⟩ | ⟨-, -, -, rfl, -⟩
      · rfl
      · exact Bool.and_false _
    have run : exec c s = .next (settle [] s (completeStuck p (heldLines p scl sda expiry s))) := by
      rcases event with ⟨rfl, rfl, rfl, expires⟩ | ⟨rfl, phase, rfl, rfl, expires⟩
      · have limit : s.stretchExpiry p = expiry := (stretchExpiry_eq s p).trans expires.symm
        rw [heldLines, ← limit, ← holdClock_eq]
        exact congrArg Host.Outcome.next (reachStretchLimit_active runs.1)
      · have limit : s.sdaExpiry p = expiry := (sdaExpiry_eq s p).trans expires.symm
        rw [heldLines, ← limit, ← holdData_eq]
        exact congrArg Host.Outcome.next (reachSdaLimit_active runs.1 phase)
    refine ⟨heldLines p scl sda expiry s, reportStuck p (heldLines p scl sda expiry s), rfl, ?_, ?_⟩
    · rw [reportStuck_low ((line_heldLines scl sda expiry).trans low), causes_heldLines]
    · exact run.trans (congrArg (fun u => Host.Outcome.next (settle [] s u)) (completeStuck_held runs below))
  · refine ⟨s.stretchExpiry p, _, stretchExpiry_eq s p, rfl, fun unasked => congrArg Host.Outcome.next ?_, fun m tag asked held =>
      congrArg Host.Outcome.next ?_⟩
    · rw [reachStretchLimit_clearing work, endClear_unanswered false unasked, holdClock_eq]
      rfl
    · subst asked
      rw [reachStretchLimit_clearing work, endClear_answers (by exact held), holdClock_eq]
      rfl

/-! ### The inhibit filter -/

section
variable {s : State} {p : Port} {t : Txn} {l : Link} {tag : Tag} {r : Record}

/-- INHIBIT joins where it is absent (R126), the clock at the end of the filter's time. -/
def inhibited (p : Port) (now : Time) (s : State) : State :=
  raiseBoth .portHeld (.port p) ({ s with now := now }.setUnit p { s.unit p with
    state := .held, causes := { (s.unit p).causes with inhibit := true } })

theorem sameWork_inhibited (now : Time) : SameWork p s (inhibited p now s) :=
  (⟨rfl, rfl, rfl, rfl, rfl, rfl, fun _ => rfl, fun _ => rfl⟩ : SameWork p s { s with now := now }).trans
    ((keptUnits_sameWork p _).raiseBoth _ _ ((keptUnits_sameWork p _).setUnit _ _ (.refl p _)))

theorem engine_inhibited (now : Time) : (inhibited p now s).engine p = s.engine p := rfl

theorem expireFilter_runs (runs : (s.unit p).filterRuns = true) (reset : s.rstnLow = false) :
    expireFilter p s = settle [] s (filterComplete p
      (s.upTo ((s.unit p).inhSince + Config.ms (s.engine p).config.tInh))) := by
  rw [expireFilter]
  exact if_pos (by rw [runs, reset]; rfl)

theorem filterRuns_iff {u : Containment} : u.filterRuns = true ↔ u.inhHigh = u.causes.inhibit := by
  rw [Containment.filterRuns, beq_iff_eq]

theorem expireFilter_stopped (stopped : (s.unit p).inhHigh ≠ (s.unit p).causes.inhibit) : expireFilter p s = s := by
  rw [expireFilter]
  refine if_neg fun ready => stopped (filterRuns_iff.mp ?_)
  exact (Bool.and_eq_true_iff.mp ready).1

/-- The filter at a low level that INHIBIT does not show yet (R126). -/
theorem expireFilter_joins (reset : s.rstnLow = false) (low : (s.unit p).inhHigh = false)
    (absent : (s.unit p).causes.inhibit = false) : ∃ joined, joined =
      inhibited p (max s.now ((s.unit p).inhSince + (s.engine p).config.tInh * 10000)) s ∧
    expireFilter p s = settle [] s
      (if (s.engine p).config.mode = .blockAll ∧ (s.engine p).activeSlot?.isSome = true then
        match (s.engine p).phase with
        | none => complete p .abortedInhibit [] joined
        | some _ => joined.setEngine p { s.engine p with abortPending := true }
      else joined) := by
  obtain ⟨joined, hj⟩ : ∃ joined, joined =
    inhibited p (max s.now ((s.unit p).inhSince + (s.engine p).config.tInh * 10000)) s := ⟨_, rfl⟩
  refine ⟨joined, hj, ?_⟩
  have joins : joinCause p .inhibit (s.upTo ((s.unit p).inhSince + Config.ms (s.engine p).config.tInh)) = joined := by
    rw [joinCause_eq, hj]
    exact if_neg fun present => Bool.false_ne_true (absent.symm.trans present)
  have engine : joined.engine p = s.engine p := hj ▸ rfl
  rw [expireFilter_runs (filterRuns_iff.mpr (low.trans absent.symm)) reset, filterComplete]
  refine congrArg (settle [] s) ((if_neg fun high => Bool.false_ne_true (low.symm.trans high)).trans
    ((if_neg fun present => Bool.false_ne_true (absent.symm.trans present)).trans ?_))
  rw [joinInhibit, joins]
  dsimp only
  rw [engine] <;> rfl

/-- The filter at a high level while INHIBIT is present: it leaves (R126, R127). -/
theorem expireFilter_leaves (reset : s.rstnLow = false) (high : (s.unit p).inhHigh = true)
    (present : (s.unit p).causes.inhibit = true) : expireFilter p s = settle [] s
      (leaveCause p .inhibit (s.upTo ((s.unit p).inhSince + Config.ms (s.engine p).config.tInh))) := by
  rw [expireFilter_runs (filterRuns_iff.mpr (high.trans present.symm)) reset, filterComplete]
  exact congrArg (settle [] s) (if_pos high)

/-- A completion keeps what the engine had beside its work. -/
theorem completed_setEngine_any (e : Engine) (o : Status) (d : List Byte) :
    (s.setEngine p e).completed p t l tag r o d = (s.completed p t l tag r o d).setEngine p e.atRest := by
  rw [State.completed, State.engine_setEngine_self]
  simp only [State.completed, State.withoutSlot, State.setEngine, PerPort.set_set]
  rfl

/-- The abort at the byte boundary (R133, R134). -/
theorem abortAtBoundary_runs {acked : Bool} (runs : s.runs p t l tag r) (abort : (s.engine p).abortPending = true) :
    abortAtBoundary p acked s = settle [] s (setOpen p (abortedOpen (s.engine p) acked)
      ((releaseLines p s).completed p t l tag r .abortedInhibit [])) := by
  have same := (sameWork_setEngine (e := { s.engine p with openChannel := abortedOpen (s.engine p) acked }) rfl).trans
    (sameWork_endPhase p (s.setEngine p { s.engine p with openChannel := abortedOpen (s.engine p) acked }))
  rw [abortAtBoundary_pending acked abort, setOpen]
  refine congrArg (settle [] s)
    ((complete_neutral .abortedInhibit (same.runs runs) rfl (by decide) (by decide) (by decide)).trans ?_)
  rw [endPhase_setEngine, completed_setEngine_any, setOpen, engine_completed, engine_releaseLines]
  rfl

end

/-- Settles O47: the filter's time at a level, the abort at the byte boundary, and neither where none is due. -/
theorem inhibitFilterAndAbort : Obligations.InhibitFilterAndAbort := by
  refine ⟨fun p s reset low absent => ?_, fun p s reset high present => ⟨_, _, rfl, rfl, congrArg Host.Outcome.next ?_⟩,
    fun p s stopped => congrArg Host.Outcome.next (expireFilter_stopped stopped),
    fun p t l tag r acked s runs abort => congrArg Host.Outcome.next (abortAtBoundary_runs runs abort),
    fun p acked s abort => congrArg Host.Outcome.next ?_⟩
  · obtain ⟨joined, hj, run⟩ := expireFilter_joins reset low absent
    refine ⟨_, joined, rfl, hj, fun h => congrArg Host.Outcome.next (run.trans (congrArg (settle [] s) (if_neg ?_))),
      fun t l tag r runs mode => ?_⟩
    · rintro ⟨mode, slot⟩
      rcases h with other | none_
      · exact other mode
      · rw [none_] at slot
        cases slot
    · have same : SameWork p s joined := hj ▸ sameWork_inhibited _
      rw [if_pos ⟨mode, by rw [activeTxn_slot runs.1]; rfl⟩] at run
      refine ⟨fun phase => congrArg Host.Outcome.next ?_, fun phase => congrArg Host.Outcome.next ?_⟩
      · rw [phase] at run
        refine run.trans ?_
        exact congrArg (settle [] s)
          (complete_neutral .abortedInhibit (same.runs runs) rfl (by decide) (by decide) (by decide))
      · obtain ⟨x, under⟩ := Option.ne_none_iff_exists'.mp phase
        rw [under] at run
        exact run
  · rw [expireFilter_leaves reset high present]
    refine congrArg (settle [] s) ((leaveCause_present (by exact present)).trans (if_congr ?_ rfl rfl))
    exact others_of_inhibit _
  · rw [abortAtBoundary]
    exact if_neg (by simp [abort])

end Sys2Proof.Machine
end

section
/-! SUPPORT. The removal of listed transactions, whatever the hand-outs between them place (R57, R80): what is not
listed and can still be removed is nothing. CONFIGURE_PORT, QUERY_PORT and CLEAR_BUS (R78 to R82, R95, R125, R126). -/
namespace Sys2Proof.Machine

/-! ### What is left to remove -/

/-- Under a law of the state, the transactions of a kind are among those that are listed. -/
structure Left (I : State → Prop) (Q : Txn → Prop) (ts : List Txn) (s : State) : Prop where
  law : I s
  listed : ∀ t ∈ s.pool, Q t → t ∈ ts

section
variable {I : State → Prop} {Q : Txn → Prop} {ts : List Txn} {s : State}

theorem Left.congr {t : State} (h : Left I Q ts s) (law : I t) (pool : t.pool = s.pool) : Left I Q ts t :=
  ⟨law, by rw [pool]; exact h.listed⟩

theorem pool_setRuntime (h : Handle) (rt : Runtime) (s : State) : (s.setRuntime h rt).pool = s.pool := by
  rw [State.setRuntime]
  split
  · rfl
  · rfl

theorem freeSlot?_of_slotOpen {l : Link} (h : s.slotOpen l = true) : ∃ n, s.freeSlot? = some n :=
  Option.isSome_iff_exists.mp (Bool.and_eq_true_iff.mp h).1

/-- No member that a hand-out places is of the kind. -/
def NonePlaced (I : State → Prop) (Q : Txn → Prop) : Prop :=
  ∀ {s : State} {c : Nat} {cfg : EndpointConfig} {t : Txn}, I s → s.issues c t.attributed cfg →
    t.snapshot.port = s.portOf cfg → ¬ Q t

theorem keptEnd_left (k : KeptEnd I) (none_ : NonePlaced I Q) (ts : List Txn) : KeptEnd (Left I Q ts) where
  waiting ws h := h.congr (k.waiting ws h.law) rfl
  setContext found link tag h := h.congr (k.setContext found link tag h.law) rfl
  closeContext d found h := h.congr (k.closeContext d found h.law) (respond_pool ..)
  placeMember {s l} c i x cfg op index length data deadline issued open_ admitted h := by
    refine ⟨k.placeMember c i x cfg op index length data deadline issued open_ admitted h.law, fun u hu hq => ?_⟩
    obtain ⟨n, free⟩ := freeSlot?_of_slotOpen open_
    rw [place_some free] at hu
    rcases List.mem_append.mp hu with old | new
    · exact h.listed u old hq
    · rw [List.mem_singleton.mp new] at hq
      exact absurd hq (none_ h.law issued rfl)
  dropSlot slot h := ⟨k.dropSlot slot h.law, fun u hu => h.listed u (List.mem_of_mem_filter hu)⟩
  respond l tag o d h := h.congr (k.respond l tag o d h.law) (respond_pool ..)
  raise l kind x h := h.congr (k.raise l kind x h.law) rfl
  setRuntime x rt h := h.congr (k.setRuntime x rt h.law) (pool_setRuntime ..)
  removeReservation x h := h.congr (k.removeReservation x h.law) rfl
  installStaging armed h := h.congr (k.installStaging armed h.law) rfl

/-- The removal of the first listed transaction leaves the others. -/
theorem Left.removeExamined {t : Txn} (k : KeptEnd I) (none_ : NonePlaced I Q) (o : Option Status)
    (h : Left I Q (t :: ts) s) : Left I Q ts (removeExamined t o s) := by
  have kept := keptEnd_left k none_ ts
  have unprobed : Left I Q (t :: ts) (if t.origin.isProbe then unprobe t.handle s else s) := by
    split
    · exact (keptEnd_left k none_ _).toKeptRemoval.unprobe _ h
    · exact h
  have freed : Left I Q ts (freeSlot t.slot (if t.origin.isProbe then unprobe t.handle s else s)) := by
    refine kept.handOut ⟨k.dropSlot t.slot unprobed.law, fun u hu hq => ?_⟩
    obtain ⟨member, other⟩ := List.mem_filter.mp hu
    rcases List.mem_cons.mp (unprobed.listed u member hq) with rfl | later
    · simp at other
    · exact later
  refine kept.toKeptExam.examine _ ?_
  unfold Machine.removeQueued
  cases o with
  | none => exact freed
  | some o => exact kept.deliver t o [] freed

theorem Left.removeAllExamined (k : KeptEnd I) (none_ : NonePlaced I Q) (o : Option Status) (h : Left I Q ts s) :
    Left I Q [] (removeAllExamined ts o s) := by
  rw [Machine.removeAllExamined]
  induction ts generalizing s with
  | nil => exact h
  | cons t rest ih =>
    refine ih ?_
    dsimp only
    split
    · exact h.removeExamined k none_ o
    · next gone =>
      refine ⟨h.law, fun u hu hq => ?_⟩
      rcases List.mem_cons.mp (h.listed u hu hq) with rfl | later
      · exact absurd hu gone
      · exact later

end

/-! ### A port that is disabled -/

theorem keptEnd_engines (es : PerPort Engine) : KeptEnd fun s => s.engines = es where
  waiting _ h := h
  setContext _ _ _ h := h
  closeContext _ _ h := (respond_engines ..).trans h
  placeMember _ _ _ _ _ _ _ _ _ _ open_ _ h := by
    obtain ⟨n, free⟩ := freeSlot?_of_slotOpen open_
    rw [place_some free]
    exact h
  dropSlot _ h := h
  respond _ _ _ _ h := (respond_engines ..).trans h
  raise _ _ _ h := h
  setRuntime x rt h := ((flow_setRuntime x rt _).engines).trans h
  removeReservation _ h := h
  installStaging _ h := h

/-- The transaction waits in the queue of the port, where the engines are these. -/
def Txn.queuedUnder (p : Port) (es : PerPort Engine) (t : Txn) : Prop :=
  t.snapshot.port = p ∧ (es.get p).activeSlot? ≠ some t.slot

/-- No member is placed on a port that is disabled (R155). -/
theorem nonePlaced_disabled {p : Port} {es : PerPort Engine} (disabled : (es.get p).config.enable = false) :
    NonePlaced (fun s => s.engines = es) (Txn.queuedUnder p es) := by
  rintro s c cfg t rfl ⟨-, enabled⟩ port ⟨here, -⟩
  rw [← port, here] at enabled
  exact Bool.false_ne_true (disabled.symm.trans enabled)

/-- The configurations of the ports are these, and each transaction of the port is ACTIVE. -/
structure Emptied (p : Port) (f : Port → PortConfig) (s : State) : Prop where
  configs : ∀ q, (s.engine q).config = f q
  active : ∀ x ∈ s.pool, x.snapshot.port = p → s.isActive x = true

section
variable {p : Port} {f : Port → PortConfig} {s t : State}

theorem Emptied.congr (h : Emptied p f s) (engines : t.engines = s.engines) (pool : t.pool = s.pool) :
    Emptied p f t := by
  refine ⟨fun q => ?_, fun x hx port => ?_⟩
  · rw [State.engine, engines]
    exact h.configs q
  · rw [pool] at hx
    have active := h.active x hx port
    rwa [State.isActive, State.engine, engines]

theorem Emptied.queue (h : Emptied p f s) : s.queue p = [] := by
  refine List.filter_eq_nil_iff.mpr fun x hx queued => ?_
  obtain ⟨port, waits⟩ := Bool.and_eq_true_iff.mp queued
  rw [h.active x hx (of_decide_eq_true port)] at waits
  cases waits

theorem keptUnits_emptied (p : Port) (f : Port → PortConfig) : KeptUnits (Emptied p f) where
  setUnit _ _ h := h.congr rfl rfl
  raise _ _ _ h := h.congr rfl rfl

theorem isActive_iff {x : Txn} (port : x.snapshot.port = p) :
    s.isActive x = true ↔ (s.engine p).activeSlot? = some x.slot := by
  rw [State.isActive, port, decide_eq_true_eq]

/-- A port whose engine keeps its configuration and its transaction. -/
theorem Emptied.setEngine (h : Emptied p f s) {e : Engine} (config : e.config = f p)
    (slot : e.activeSlot? = (s.engine p).activeSlot?) : Emptied p f (s.setEngine p e) := by
  refine ⟨fun q => ?_, fun x hx port => ?_⟩
  · rw [State.engine_setEngine]
    split
    · next here => rw [here, config]
    · exact h.configs q
  · rw [isActive_iff port, State.engine_setEngine_self, slot]
    exact (isActive_iff port).mp (h.active x hx port)

theorem emptied_of_left {es : PerPort Engine} (left : Left (fun u => u.engines = es) (Txn.queuedUnder p es) [] s)
    (configs : ∀ q, (es.get q).config = f q) : Emptied p f s := by
  refine ⟨fun q => ?_, fun x hx port => ?_⟩
  · rw [State.engine, left.law]
    exact configs q
  · by_contra waits
    refine List.not_mem_nil (left.listed x hx ⟨port, fun active => waits ?_⟩)
    rw [isActive_iff port, State.engine, left.law]
    exact active

/-- The removal of a disabled port's queue leaves its ACTIVE transaction alone (R80). -/
theorem emptied_removeAllExamined (disabled : (s.engine p).config.enable = false)
    (configs : ∀ q, (s.engine q).config = f q) (o : Option Status) :
      Emptied p f (removeAllExamined (s.queue p) o s) := by
  have before : Left (fun u => u.engines = s.engines) (Txn.queuedUnder p s.engines) (s.queue p) s := by
    refine ⟨rfl, fun x hx ⟨port, waits⟩ => List.mem_filter.mpr ⟨hx, ?_⟩⟩
    have queued : s.isActive x = false :=
      Bool.eq_false_iff.mpr fun active => waits ((isActive_iff port).mp active)
    rw [queued, decide_eq_true port]
    rfl
  exact emptied_of_left (before.removeAllExamined (keptEnd_engines _) (nonePlaced_disabled disabled) o) configs

theorem mem_pool_reportHealth {x : Txn} {u : Txn} {o : Status} (h : x ∈ (reportHealth u o s).pool) : x ∈ s.pool := by
  rw [reportHealth] at h
  split at h
  · rwa [pool_setRuntime] at h
  · exact h

/-- A completion on a disabled port leaves it without transactions. -/
theorem Emptied.complete (h : Emptied p f s) (disabled : (f p).enable = false) {o : Status} (plain : o ≠ .busStuck)
    (d : List Byte) : Emptied p f (complete p o d s) := by
  rw [Machine.complete]
  split
  · next x active =>
    obtain ⟨ended, he⟩ : ∃ ended, ended = s.setEngine p ((s.engine p).afterOutcome o s.now) := ⟨_, rfl⟩
    have engine : ended.engine p = (s.engine p).afterOutcome o s.now := by rw [he, State.engine_setEngine_self]
    have idle : (ended.engine p).activeSlot? = none := by
      rw [engine, Engine.afterOutcome, if_neg plain]
      rfl
    have configs : ∀ q, (ended.engines.get q).config = f q := fun q => by
      change (ended.engine q).config = f q
      rw [he, State.engine_setEngine]
      split
      · next here =>
        rw [here]
        exact h.configs p
      · exact h.configs q
    have kept := keptEnd_left (keptEnd_engines ended.engines)
      (nonePlaced_disabled (p := p) (by rw [configs]; exact disabled)) []
    have reported := (keptEnd_engines ended.engines).reportHealth x o rfl
    have dropped : Left (fun u => u.engines = ended.engines) (Txn.queuedUnder p ended.engines) []
        ((reportHealth x o ended).withoutSlot x.slot) := by
      refine ⟨reported, fun y hy ⟨port, _⟩ => ?_⟩
      obtain ⟨member, other⟩ := List.mem_filter.mp hy
      have pool : y ∈ ended.pool := mem_pool_reportHealth member
      rw [he] at pool
      have slots := ((isActive_iff port).mp (h.active y pool port)).symm.trans (activeTxn_slot active)
      exact absurd (Option.some.inj slots) (of_decide_eq_true other)
    dsimp only
    rw [← he]
    exact emptied_of_left (kept.toKeptExam.followUp _ _ (kept.deliver _ _ _ (kept.handOut dropped))) configs
  · exact h

theorem Emptied.filterComplete (h : Emptied p f s) (disabled : (f p).enable = false) :
    Emptied p f (filterComplete p s) := by
  rw [Machine.filterComplete]
  split_ifs with high present
  · exact (keptUnits_emptied p f).leaveCause p _ h
  · exact h
  · have joined := (keptUnits_emptied p f).joinCause p .inhibit h
    rw [joinInhibit]
    split
    · split
      · exact joined.complete disabled (by decide) []
      · exact joined.setEngine (joined.configs p) rfl
    · exact joined

theorem Emptied.settled (h : Emptied p f s) (disabled : (f p).enable = false) (told : List Port) (before : State) :
    Emptied p f (settle told before s) := by
  have settled := settled_settle told before s
  have idle : (s.engine p).idle = false := idle_eq_false.mpr (.inl (by rw [h.configs]; exact disabled))
  have engine : (settle told before s).engine p = s.engine p := by
    rw [engine_settle_eq, settledEngine, runArbiter_busy idle]
    exact ite_self _
  obtain ⟨engines, rest⟩ := settled.rest
  refine ⟨fun q => (settled.config q).trans (h.configs q), fun x hx port => ?_⟩
  rw [rest] at hx
  rw [isActive_iff port, engine]
  exact (isActive_iff port).mp (h.active x hx port)

end

/-- The configurations of the ports after one is replaced. -/
def configsWith (p : Port) (c : PortConfig) (s : State) (q : Port) : PortConfig :=
  if q = p then c else (s.engine q).config

theorem config_replaceConfig (p q : Port) (c : PortConfig) (s : State) :
    ((replaceConfig p c s).engine q).config = configsWith p c s q := by
  rw [replaceConfig, State.engine_setEngine, configsWith]
  split <;> rfl

/-- A CONFIGURE_PORT that disables a port (R80). -/
theorem emptied_configurePort {l : Link} {tag : Tag} {p : Port} {c : PortConfig} {s : State}
    (was : (s.engine p).config.enable = true) (disables : c.enable = false) :
    Emptied p (configsWith p c s) (configurePort l tag p c s) := by
  have own : configsWith p c s p = c := if_pos rfl
  have disabled : (configsWith p c s p).enable = false := by rw [own]; exact disables
  have config := fun q => config_replaceConfig p q c s
  obtain ⟨u, hu⟩ : ∃ u, u = replaceConfig p c s := ⟨_, rfl⟩
  rw [← hu] at config
  have enable : (u.engine p).config.enable = false := by rw [config, own]; exact disables
  have applied : applyEnable p true u = removeAllExamined (u.queue p) (some .cancelledDisable) u := by
    unfold applyEnable
    rw [enable]
  have removed := emptied_removeAllExamined enable config (some .cancelledDisable)
  have joined := (keptUnits_emptied p _).joinArbitrationIfDue p removed
  have filtered : Emptied p (configsWith p c s) (filterIfDue p (joinArbitrationIfDue p (applyEnable p true u))) := by
    rw [applied, filterIfDue]
    split
    · exact joined.filterComplete disabled
    · exact joined
  rw [configurePort, was, ← hu]
  exact (filtered.congr (respond_engines ..) (respond_pool ..)).settled disabled [] s

/-- Settles O36: what CONFIGURE_PORT leaves of the queue of a port it disables. -/
theorem disableEmptiesTheQueue : Obligations.DisableEmptiesTheQueue := by
  intro l tag ps p c s ha block was disables
  obtain ⟨u, hu⟩ : ∃ u, u = s.accepted l tag ps := ⟨_, rfl⟩
  have engine : ∀ q, u.engine q = s.engine q := fun q => by rw [hu, accepted_engine]
  obtain ⟨t, ht⟩ : ∃ t, t = configurePort l tag p c u := ⟨_, rfl⟩
  have run : exec (.configurePort l tag ps) s = .next t := by
    rw [exec_configurePort ha, takeConfigurePort, withBlock_some _ _ block, ht, hu]
  have emptied : Emptied p (configsWith p c u) t := ht ▸ emptied_configurePort (by rw [engine]; exact was) disables
  refine ⟨t, run, (emptied.configs p).trans (if_pos rfl), emptied.queue, fun q other => ?_⟩
  rw [emptied.configs q, configsWith, if_neg other, engine]

end Sys2Proof.Machine
end

section
/-! SUPPORT. CONFIGURE_PORT on a port it does not disable, QUERY_PORT, and the bus clear (R78 to R82, R95, R125, R126).
-/
namespace Sys2Proof.Machine

/-! ### The bus clear -/

theorem pulsesFree_iff (n : Nat) (xs : List PulseReading) :
    pulsesFree n xs = true ↔ ∃ k < n, xs[k]? = some .dataHigh ∧ ∀ j < k, xs[j]? = some .dataLow := by
  induction n generalizing xs with
  | zero => simp [pulsesFree]
  | succ n ih =>
    cases xs with
    | nil => simp [pulsesFree]
    | cons x rest =>
      cases x with
      | clockHeld =>
        refine iff_of_false Bool.false_ne_true ?_
        rintro ⟨_ | k, -, high, low⟩
        · cases high
        · cases low 0 (Nat.succ_pos k)
      | dataHigh => exact iff_of_true rfl ⟨0, Nat.succ_pos n, rfl, fun j hj => absurd hj (Nat.not_lt_zero j)⟩
      | dataLow =>
        refine (ih rest).trans ⟨?_, ?_⟩
        · rintro ⟨k, below, high, low⟩
          refine ⟨k + 1, Nat.succ_lt_succ below, high, fun j hj => ?_⟩
          cases j with
          | zero => rfl
          | succ j => exact low j (Nat.lt_of_succ_lt_succ hj)
        · rintro ⟨_ | k, below, high, low⟩
          · cases high
          · exact ⟨k, Nat.lt_of_succ_lt_succ below, high, fun j hj => low (j + 1) (Nat.succ_lt_succ hj)⟩

theorem clearFree_iff (r : ClearReading) : clearFree r = true ↔ r.clockRises = true ∧ r.linesHigh = true ∧
    (r.dataHigh = true ∨ ∃ k < 9, r.pulses[k]? = some .dataHigh ∧ ∀ j < k, r.pulses[j]? = some .dataLow) := by
  rw [clearFree, Bool.and_eq_true, Bool.and_eq_true, Bool.or_eq_true, pulsesFree_iff, and_assoc,
    and_comm (b := r.linesHigh = true)]

section
variable {p : Port} {r : ClearReading} {s : State}

theorem freeLine_releaseLines (counts : (s.unit p).freeLine ≠ .stopped) :
    ((releaseLines p s).unit p).freeLine = .high s.now := by
  rw [releaseLines, freeLine_putLines, freeLine_putLines, Bool.and_false, seen_low counts]
  rfl

theorem heldLevels_stuck (rises : r.clockRises = false) (sda : Bool) : heldLevels r sda = (false, sda) := by
  rw [heldLevels, rises]
  rfl

theorem heldLevels_risen (rises : r.clockRises = true) (sda : Bool) :
    heldLevels r sda = (r.dataHigh || !pulsesHeld 9 r.pulses, false) := by
  rw [heldLevels, rises]
  rfl

theorem clock_held_iff : (r.dataHigh || !pulsesHeld 9 r.pulses) = false ↔ r.dataHigh = false ∧
    ∃ k < 9, r.pulses[k]? = some .clockHeld ∧ ∀ j < k, r.pulses[j]? = some .dataLow := by
  rw [Bool.or_eq_false_iff, Bool.not_eq_false', pulsesHeld_iff]

theorem finishClear_clearing {kind : ClearKind} (work : (s.engine p).work = some (.clearing kind)) :
    finishClear p r s = settle [] s (endClear p kind (clearFree r) (clearedLines p r s)) := by
  rw [finishClear, work]

theorem finishClear_other (other : ∀ k, (s.engine p).work ≠ some (.clearing k)) : finishClear p r s = s := by
  rw [finishClear]
  split
  · next work => exact absurd work (other _)
  · rfl

theorem endClear_answered {m : Link} {g : Tag} (free : Bool) (held : g ∈ (s.link m).outstanding) :
    endClear p (.manual (some (m, g))) free s = (s.setEngine p (s.engine p).afterClear).setLink m { s.link m with
      outstanding := (s.link m).outstanding.erase g
      queue := (s.link m).queue ++ [Response.mk g (if free then .ok else .busStuck) []] } :=
  respond_outstanding _ _ _ _ _ held

theorem link_clearedLines (m : Link) : (clearedLines p r s).link m = s.link m := by
  unfold clearedLines
  dsimp only
  split
  · exact link_releaseLines ..
  · rfl

/-- A manual clear begins in an IDLE engine (R78). -/
theorem clearBus_accepted {l : Link} {tag : Tag} {ps : List Byte} (ha : s.accepts l tag ps) :
    clearBus l tag p (s.accepted l tag ps) = if (s.engine p).config.enable = true ∧ (s.engine p).work = none then
        (s.accepted l tag ps).setEngine p { s.engine p with
          work := some (.clearing (.manual (some (l, tag))))
          phase := some { items := [.pulses 9, .stop], speed := .standard, stretch := (s.engine p).config.tStretch }
          since := s.now }
      else s.answered l tag ps .portBusy [] := by
  have refused := answer_accepted .portBusy ha
  rw [clearBus]
  refine if_congr idle_iff rfl ?_
  exact refused

end

/-- Settles O37: the start of a clear, its end, and what it read. -/
theorem busClear : Obligations.BusClear := by
  refine ⟨fun l tag ps p s ha block => ?_, fun p kind r s work => ?_,
    fun p r s other => congrArg Host.Outcome.next (finishClear_other other), clearFree_iff⟩
  · rw [exec_clearBus ha, takeClearBus, withBlock_some _ _ block, clearBus_accepted ha]
  · refine ⟨clearedLines p r s, _, fun free => ⟨clearedLines_free free, fun counts => ?_⟩, fun stuck => ?_, rfl,
      fun unasked => ?_, fun m tag asked held => ?_⟩
    · rw [clearedLines_free free]
      exact freeLine_releaseLines counts
    · refine ⟨_, _, clearedLines_held stuck, Bool.and_eq_false_iff.mp (heldLevels_low r _), fun rises => ?_,
        fun rises => ?_, fun counts => ?_⟩
      · rw [heldLevels_stuck rises]
        exact ⟨rfl, rfl⟩
      · rw [heldLevels_risen rises]
        exact ⟨rfl, clock_held_iff⟩
      · rw [clearedLines_held stuck, freeLine_putLines, heldLevels_low]
        exact seen_low counts
    · refine congrArg Host.Outcome.next ?_
      rw [finishClear_clearing work, endClear_unanswered _ unasked, engine_clearedLines]
      rfl
    · subst asked
      refine congrArg Host.Outcome.next ?_
      rw [finishClear_clearing work, endClear_answered _ (by rw [link_clearedLines]; exact held), link_clearedLines,
        engine_clearedLines]
      rfl

/-! ### QUERY_PORT -/

theorem length_activeBytes (t : Option Txn) : (activeBytes t).length = 8 := by
  cases t <;> rfl

theorem length_openBytes (o : OpenChannel) : o.bytes.length = 3 := by
  cases o <;> rfl

theorem length_portPayload (s : State) (p : Port) : (s.portPayload p).length = 31 := by
  have config : (portConfigBytes (s.engine p).config).length = 8 := rfl
  simp only [State.portPayload, List.length_append, length_activeBytes, length_openBytes, config]
  rfl

theorem openBytes_eq (o : OpenChannel) : o.bytes = match o with
    | .none => [0, 0, 0]
    | .unknown => [1, 0, 0]
    | .channel mux c => [2, mux.setWidth 8, c.setWidth 8] := by
  cases o <;> rfl

theorem activeBytes_eq (t : Option Txn) : activeBytes t = match t with
    | none => [0, 0, 0, 0, 0, 0, 0, 0]
    | some t => [1, byteOf t.origin.originClass.num, byteOf t.origin.contextNum] ++ handleBytes t.handle ++
        [byteOf t.operation.num] ++ wordOf t.epoch.toNat := by
  cases t <;> rfl

theorem exec_queryPort_answers {l : Link} {tag : Tag} {ps : List Byte} {p : Port} {s : State}
    (ha : s.accepts l tag ps) (block : portBlock? ps = some p) :
    exec (.queryPort l tag ps) s = .next (s.answered l tag ps .ok (s.portPayload p)) := by
  rw [exec_queryPort ha, takeQueryPort, withBlock_some _ _ block]
  exact congrArg Host.Outcome.next (respond_accepted .ok (s.portPayload p) ha)

/-! ### CONFIGURE_PORT -/

section
variable {p : Port} {c : PortConfig} {s : State}

/-- A port with its configuration replaced, and its enable taken (R79, R81). -/
def configuredPort (p : Port) (c : PortConfig) (s : State) : State :=
  s.setEngine p { s.engine p with
    config := c
    openChannel := if (s.engine p).config.enable = false ∧ c.enable = true ∧ (s.engine p).work = none then .unknown
      else (s.engine p).openChannel }

theorem applyEnable_replaceConfig (keeps : (s.engine p).config.enable = true → c.enable = true) :
    applyEnable p (s.engine p).config.enable (replaceConfig p c s) = configuredPort p c s := by
  have engine : (replaceConfig p c s).engine p = { s.engine p with config := c } := State.engine_setEngine_self ..
  have same (h : ¬ ((s.engine p).config.enable = false ∧ c.enable = true ∧ (s.engine p).work = none)) :
      configuredPort p c s = replaceConfig p c s := by
    rw [configuredPort, if_neg h]
    rfl
  have opened (h : (s.engine p).config.enable = false ∧ c.enable = true ∧ (s.engine p).work = none) :
      configuredPort p c s = s.setEngine p { s.engine p with config := c, openChannel := .unknown } := by
    rw [configuredPort, if_pos h]
  unfold applyEnable
  rw [engine]
  cases was : (s.engine p).config.enable
  · cases now : c.enable
    · exact (same fun h => Bool.false_ne_true (now.symm.trans h.2.1)).symm
    · dsimp only
      rw [enableEngine, engine]
      by_cases idle : (s.engine p).work = none
      · refine (if_pos (Option.isNone_iff_eq_none.mpr idle)).trans ?_
        rw [opened ⟨was, now, idle⟩, replaceConfig, State.setEngine_setEngine]
      · rw [same fun h => idle h.2.2]
        exact if_neg fun none_ => idle (Option.isNone_iff_eq_none.mp none_)
  · rw [keeps was]
    exact (same fun h => Bool.false_ne_true (h.1.symm.trans was)).symm

theorem config_configuredPort : ((configuredPort p c s).engine p).config = c :=
  congrArg Engine.config (State.engine_setEngine_self ..)

/-- The filter is not complete: its level agrees with the presence of INHIBIT, or has not been held (R126). -/
theorem filterIfDue_waits (config : (s.engine p).config = c)
    (waits : (s.unit p).inhHigh ≠ (s.unit p).causes.inhibit ∨ s.now < (s.unit p).inhSince + c.tInh * 10000) :
    filterIfDue p s = s := by
  rw [filterIfDue, config]
  rcases waits with agrees | early
  · have complete : filterComplete p s = s := by
      rw [filterComplete]
      cases high : (s.unit p).inhHigh
      · refine (if_neg Bool.false_ne_true).trans (if_pos ?_)
        rw [high] at agrees
        exact Bool.eq_true_of_not_eq_false (Ne.symm agrees)
      · refine (if_pos rfl).trans (leaveCause_absent ?_)
        rw [high] at agrees
        exact Bool.eq_false_of_not_eq_true (Ne.symm agrees)
    rw [complete]
    exact ite_self s
  · exact if_neg (Nat.not_le.mpr early)

theorem joinArbitrationIfDue_absent (config : (s.engine p).config = c)
    (h : (s.unit p).losses < c.lossThreshold ∨ (s.unit p).causes.arbitration = true) :
    joinArbitrationIfDue p s = s := by
  rw [joinArbitrationIfDue, config]
  rcases h with below | present
  · exact if_neg (Nat.not_le.mpr below)
  · have stays : joinCause p .arbitration s = s := if_pos present
    rw [stays]
    exact ite_self s

/-- ARBITRATION joins a port (R125). -/
def arbitrationJoined (p : Port) (s : State) : State :=
  raiseBoth .portHeld (.port p) (s.setUnit p { s.unit p with
    state := .held, causes := { (s.unit p).causes with arbitration := true } })

theorem joinArbitrationIfDue_joins (config : (s.engine p).config = c) (reached : c.lossThreshold ≤ (s.unit p).losses)
    (absent : (s.unit p).causes.arbitration = false) : joinArbitrationIfDue p s = arbitrationJoined p s := by
  rw [joinArbitrationIfDue, config, if_pos reached]
  exact if_neg fun present => Bool.false_ne_true (absent.symm.trans present)

theorem unit_arbitrationJoined : (arbitrationJoined p s).unit p = { s.unit p with
    state := .held, causes := { (s.unit p).causes with arbitration := true } } :=
  PerPort.get_set_self ..

theorem filterIfDue_joined (config : (s.engine p).config = c)
    (waits : (s.unit p).inhHigh ≠ (s.unit p).causes.inhibit ∨ s.now < (s.unit p).inhSince + c.tInh * 10000) :
    filterIfDue p (arbitrationJoined p s) = arbitrationJoined p s := by
  refine filterIfDue_waits (c := c) config ?_
  rw [unit_arbitrationJoined]
  exact waits

theorem answer_arbitrationJoined {l : Link} {tag : Tag} {ps : List Byte} (ha : s.accepts l tag ps) :
    answer l tag .ok (arbitrationJoined p (s.accepted l tag ps)) =
      (arbitrationJoined p s).answered l tag ps .ok [] := by
  obtain ⟨v, hv⟩ : ∃ v, v = s.setUnit p { s.unit p with
      state := .held, causes := { (s.unit p).causes with arbitration := true } } := ⟨_, rfl⟩
  have accepts : v.accepts l tag ps := hv ▸ ha
  have joined : arbitrationJoined p (s.accepted l tag ps) =
      (raiseBoth .portHeld (.port p) v).accepted l tag ps := by
    rw [← raiseBoth_accepted, hv]
    rfl
  rw [joined, answer_accepted .ok (accepts_raiseBoth .portHeld (.port p) accepts), hv, arbitrationJoined]

theorem configurePort_eq {l : Link} {tag : Tag} (keeps : (s.engine p).config.enable = true → c.enable = true) :
    configurePort l tag p c s =
      settle [] s (answer l tag .ok (filterIfDue p (joinArbitrationIfDue p (configuredPort p c s)))) := by
  rw [configurePort, applyEnable_replaceConfig keeps]

end

theorem exec_configurePort_block {l : Link} {tag : Tag} {ps : List Byte} {p : Port} {c : PortConfig} {s : State}
    (ha : s.accepts l tag ps) (block : configurePortBlock? ps = some (p, c)) :
    exec (.configurePort l tag ps) s = .next (configurePort l tag p c (s.accepted l tag ps)) := by
  rw [exec_configurePort ha, takeConfigurePort, withBlock_some _ _ block]

/-- Settles O35: CONFIGURE_PORT by whether ARBITRATION joins, and the bytes of QUERY_PORT. -/
theorem portConfigurationAndQuery : Obligations.PortConfigurationAndQuery := by
  refine ⟨fun l tag ps p c s ha block keeps waits => ⟨configuredPort p c s, rfl, fun below => ?_,
    fun reached absent => ?_⟩, fun l tag ps p s ha block => ⟨s.portPayload p, ?_, length_portPayload s p,
      exec_queryPort_answers ha block⟩⟩
  · have config := config_configuredPort (p := p) (c := c) (s := s.accepted l tag ps)
    rw [exec_configurePort_block ha block, configurePort_eq (s := s.accepted l tag ps) keeps,
      joinArbitrationIfDue_absent config below, filterIfDue_waits config waits]
    exact congrArg (fun u => Host.Outcome.next (settle [] (s.accepted l tag ps) u))
      (answer_accepted (s := configuredPort p c s) .ok ha)
  · have config := config_configuredPort (p := p) (c := c) (s := s.accepted l tag ps)
    have joined := joinArbitrationIfDue_joins config reached absent
    have waited := filterIfDue_joined config waits
    rw [exec_configurePort_block ha block, configurePort_eq (s := s.accepted l tag ps) keeps, joined, waited]
    exact congrArg (fun u => Host.Outcome.next (settle [] (s.accepted l tag ps) u))
      (answer_arbitrationJoined (s := configuredPort p c s) ha)
  · rw [State.portPayload, openBytes_eq, activeBytes_eq] <;> rfl

end Sys2Proof.Machine
end

section
/-! SUPPORT. The resets that a request asks for (R23, R46, R61 to R63, R84, R104, R136, R149, R163, R164, R180, R181).
-/
namespace Sys2Proof.Machine

theorem exec_linkReset_taken (l : Link) (tag : Tag) {ps : List Byte} {s : State} (released : s.rstnLow = false)
    (fits : ps.length ≤ 64) :
    exec (.linkReset l tag ps) s = .next (takeLinkReset l tag (s.setLink l { s.link l with sent := putOut l ps })) := by
  rw [← clockPut_eq]
  exact congrArg Host.Outcome.next (acceptReset_taken l ps _ s released fits)

theorem exec_softReset_taken (l : Link) (tag : Tag) {ps : List Byte} {s : State} (released : s.rstnLow = false)
    (fits : ps.length ≤ 64) :
    exec (.softReset l tag ps) s = .next (takeSoftReset l tag (s.setLink l { s.link l with sent := putOut l ps })) := by
  rw [← clockPut_eq]
  exact congrArg Host.Outcome.next (acceptReset_taken l ps _ s released fits)

section
variable {s : State} {l m : Link} {tag : Tag}

/-- A reset is answered on its own link, where no other tag is outstanding (R180, R181). -/
theorem answer_holdTag (empty : (s.link l).outstanding = []) : answer l tag .ok (holdTag l tag s) =
    s.setLink l { s.link l with queue := (s.link l).queue ++ [Response.mk tag .ok []] } := by
  have held : (holdTag l tag s).link l = { s.link l with outstanding := [tag] } := by
    rw [holdTag, State.link_setLink_self, empty, List.nil_append]
  have member : tag ∈ ((holdTag l tag s).link l).outstanding := by
    rw [held]
    exact List.mem_singleton_self tag
  have erased : [tag].erase tag = (s.link l).outstanding := by
    rw [empty]
    exact List.erase_cons_head ..
  rw [answer, respond_outstanding _ _ _ _ _ member, held]
  dsimp only
  rw [erased, holdTag, State.setLink_setLink]

/-! ### SOFT_RESET -/

/-- Each link after a SOFT_RESET, before it is answered (R181). -/
theorem link_resetDevice (m : Link) (s : State) : (resetDevice s).link m =
    { (s.link m).cleared with attention := [(1, { subject := .none, count := 1 })] } := by
  cases m <;> rfl

/-- The state after a SOFT_RESET (R181). -/
theorem takeSoftReset_eq (l : Link) (tag : Tag) (s : State) : takeSoftReset l tag s =
    (resetDevice s).setLink l { (resetDevice s).link l with queue := [Response.mk tag .ok []] } := by
  have empty : ((resetDevice s).link l).outstanding = [] := by rw [link_resetDevice]; rfl
  have queue : ((resetDevice s).link l).queue = [] := by rw [link_resetDevice]; rfl
  rw [takeSoftReset, answer_holdTag empty, queue, List.nil_append]

/-- What a SOFT_RESET does beside the links is what it does to the blocks (R181). -/
theorem takeSoftReset_blocks (l : Link) (tag : Tag) (s : State) :
    ∃ links, takeSoftReset l tag s = { resetBlocks s with links := links } := by
  rw [takeSoftReset_eq]
  exact ⟨_, rfl⟩

theorem link_takeSoftReset (l m : Link) (tag : Tag) (s : State) : (takeSoftReset l tag s).link m =
    { (s.link m).cleared with
      attention := [(1, { subject := .none, count := 1 })]
      queue := if m = l then [Response.mk tag .ok []] else [] } := by
  rw [takeSoftReset_eq, State.link_setLink]
  split
  · next same => rw [same, link_resetDevice]
  · rw [link_resetDevice]
    rfl

end

theorem records_resetBlocks (s : State) (n : Nat) :
    (resetBlocks s).records.find n = (s.records.find n).map Record.softReset :=
  Table.find_mapValues (fun _ (r : Record) => r.softReset) s.records n

theorem record_softReset (r : Record) : r.softReset = (r.withHealth (match r.runtime.health with
    | .probing c => .quarantined c
    | h => h)).withWriteBusy none := by
  obtain ⟨_, _ | _ | _, _, _⟩ := r <;> rfl

/-- Settles O51: the blocks of the part and its links after the reset. -/
theorem softReset : Obligations.SoftReset := by
  intro l tag ps s released fits
  obtain ⟨u, hu⟩ : ∃ u, u = s.setLink l { s.link l with sent := putOut l ps } := ⟨_, rfl⟩
  have config : ∀ m, (u.link m).config = (s.link m).config := fun m => by
    rw [hu, State.link_setLink]
    split
    · next same => rw [same]
    · rfl
  have link := fun m => link_takeSoftReset l m tag u
  obtain ⟨links, blocks⟩ := takeSoftReset_blocks l tag u
  refine ⟨takeSoftReset l tag u, (exec_softReset_taken l tag released fits).trans (by rw [hu]), ?_, fun n => ?_, ?_,
    fun p => ?_, fun p => ?_, fun m => ?_, ?_, ?_⟩
  · rw [blocks, hu]
    exact ⟨rfl, rfl, rfl, rfl, rfl, rfl, rfl, rfl⟩
  · have records : u.records = s.records := hu ▸ rfl
    rw [blocks]
    refine (records_resetBlocks u n).trans ?_
    rw [records]
    exact congrArg (fun f => (s.records.find n).map f) (funext record_softReset)
  · rw [blocks, hu]
    exact ⟨rfl, rfl, rfl, rfl, rfl⟩
  · rw [blocks, hu]
    exact PerPort.get_map ..
  · rw [blocks, hu]
    exact PerPort.get_map ..
  · rw [link]
    exact ⟨rfl, rfl, rfl, config m⟩
  · rw [link]
    exact if_pos rfl
  · rw [link]
    exact if_neg (by cases l <;> decide)

/-! ### LINK_RESET -/

/-- Nothing of the link is left but the transactions that are listed, and the engines are these (R46, R63, R163). -/
structure Bare (l : Link) (es : PerPort Engine) (s : State) : Prop where
  contexts : ∀ e ∈ s.contexts, e.2.link ≠ l
  session : s.session.holder? ≠ some l
  engines : s.engines = es

section
variable {s t : State} {l : Link} {es : PerPort Engine}

theorem Bare.congr (h : Bare l es s) (contexts : t.contexts = s.contexts) (session : t.session = s.session)
    (engines : t.engines = s.engines) : Bare l es t :=
  ⟨by rw [contexts]; exact h.contexts, by rw [session]; exact h.session, engines.trans h.engines⟩

theorem keptEnd_bare (l : Link) (es : PerPort Engine) : KeptEnd (Bare l es) where
  waiting _ h := h.congr rfl rfl rfl
  setContext {s c x y} found link _ h := by
    refine ⟨fun e he => ?_, h.session, h.engines⟩
    rcases Table.mem_put he with rfl | he
    · rw [link]
      exact h.contexts _ (Table.mem_of_find found)
    · exact h.contexts e he
  closeContext d _ h :=
    have answered : Bare l es _ := h.congr (respond_contexts ..) (respond_session ..) (respond_engines ..)
    ⟨fun e he => h.contexts e ((Table.mem_remove_iff _).mp he).1, answered.session, answered.engines⟩
  placeMember _ _ _ _ _ _ _ _ _ _ open_ _ h := by
    obtain ⟨n, free⟩ := freeSlot?_of_slotOpen open_
    rw [place_some free]
    exact h.congr rfl rfl rfl
  dropSlot _ h := h.congr rfl rfl rfl
  respond _ _ _ _ h := h.congr (respond_contexts ..) (respond_session ..) (respond_engines ..)
  raise _ _ _ h := h.congr rfl rfl rfl
  setRuntime x rt h := by
    rw [State.setRuntime]
    split
    · exact h.congr rfl rfl rfl
    · exact h
  removeReservation _ h := h.congr rfl rfl rfl
  installStaging _ h := ⟨h.contexts, nofun, h.engines⟩

/-- The transaction is the link's, and no orphan. -/
def Txn.awaitedBy (l : Link) (t : Txn) : Prop :=
  t.attributed = l ∧ t.orphan = false

/-- No context of the link is left to place a member (R163). -/
theorem nonePlaced_bare : NonePlaced (Bare l es) (Txn.awaitedBy l) := by
  rintro s c cfg t law ⟨⟨x, found, link⟩, -⟩ - ⟨attributed, -⟩
  exact law.contexts _ (Table.mem_of_find found) (link.trans attributed)

theorem holder?_dropHeldSession : (dropHeldSession l s).session.holder? ≠ some l := by
  rw [dropHeldSession]
  split
  · exact nofun
  · next other => exact other

/-- What the link has when its session, its contexts and its ACTIVE transactions are gone: the queued ones (R61, R63).
-/
theorem left_markedForReset (l : Link) (s : State) : Left (Bare l (markedForReset l s).engines) (Txn.awaitedBy l)
    ((markedForReset l s).queuedOfLink l) (markedForReset l s) := by
  refine ⟨⟨fun e he => of_decide_eq_true (List.mem_filter.mp he).2, holder?_dropHeldSession, rfl⟩, ?_⟩
  rintro t ht ⟨attributed, waits⟩
  obtain ⟨old, hold, marked⟩ := List.mem_map.mp ht
  split at marked
  · rw [← marked] at waits
    cases waits
  · next whole =>
    subst marked
    have queued : (markedForReset l s).isActive old = false :=
      Bool.eq_false_iff.mpr fun active => whole ⟨attributed, active⟩
    refine List.mem_flatMap.mpr ⟨old.snapshot.port, mem_ports _, List.mem_filter.mpr ⟨?_, decide_eq_true attributed⟩⟩
    exact List.mem_filter.mpr ⟨ht, by rw [queued, decide_eq_true rfl]; rfl⟩

/-- The reservations of the link are among those that are listed (R149). -/
def Reserved (l : Link) (hs : List Handle) (s : State) : Prop :=
  ∀ r ∈ s.reservations, r.holder = l → r.handle ∈ hs

theorem keptEnd_reserved (l : Link) (hs : List Handle) : KeptEnd (Reserved l hs) where
  waiting _ h := h
  setContext _ _ _ h := h
  closeContext _ _ h := by
    rw [Reserved, respond_reservations]
    exact h
  placeMember _ _ _ _ _ _ _ _ _ _ open_ _ h := by
    obtain ⟨n, free⟩ := freeSlot?_of_slotOpen open_
    rw [place_some free]
    exact h
  dropSlot _ h := h
  respond _ _ _ _ h := by
    rw [Reserved, respond_reservations]
    exact h
  raise _ _ _ h := h
  setRuntime x rt h := by
    rw [State.setRuntime]
    split
    · exact h
    · exact h
  removeReservation _ h := fun r hr => h r (List.mem_of_mem_filter hr)
  installStaging _ h := h

/-- The removal of the first listed reservation leaves the others. -/
theorem reserved_removeReservation {h : Handle} {hs : List Handle} (left : Reserved l (h :: hs) s) :
    Reserved l hs (removeReservation h s) := by
  intro r hr holder
  obtain ⟨member, other⟩ := List.mem_filter.mp hr
  exact (List.mem_cons.mp (left r member holder)).resolve_left (of_decide_eq_true other)

theorem reserved_foldl : ∀ (hs : List Handle) {s : State}, Reserved l hs s →
    Reserved l [] (hs.foldl (fun u h => examine [h] (removeReservation h u)) s)
  | [], _, left => left
  | h :: rest, _, left => by
    rw [List.foldl_cons]
    exact reserved_foldl rest ((keptEnd_reserved l rest).toKeptExam.examine [h] (reserved_removeReservation left))

theorem reserved_dropReservations (l : Link) (s : State) : Reserved l [] (dropReservations l s) :=
  reserved_foldl _ fun r hr holder =>
    List.mem_map.mpr ⟨r, List.mem_filter.mpr ⟨hr, decide_eq_true holder⟩, rfl⟩

/-! ### The state before the link is cleared -/

theorem engine_settledForReset (l : Link) (s : State) (p : Port) : (settledForReset l s).engine p =
    { s.engine p with work := (s.engine p).work.map (Work.forget l) } := by
  obtain ⟨x, dropped⟩ := dropHeldSession_eq l s
  have marked : (markedForReset l s).engines = s.engines := by
    rw [markedForReset, dropped]
    rfl
  obtain ⟨u, hu⟩ : ∃ u, u = removeAllExamined ((markedForReset l s).queuedOfLink l) none (markedForReset l s) :=
    ⟨_, rfl⟩
  have removed : u.engines = s.engines := by
    rw [hu, (flow_removeAllExamined ..).engines, marked]
  rw [settledForReset, ← hu, State.engine, (flow_dropReservations ..).engines, forgetClears]
  refine (PerPort.get_map ..).trans ?_
  rw [removed]
  rfl

/-- What a LINK_RESET leaves of the link beside its interface (R46, R61, R63, R149, R163). -/
theorem left_settledForReset (l : Link) (s : State) :
    Left (Bare l (settledForReset l s).engines) (Txn.awaitedBy l) [] (settledForReset l s) := by
  have removed := (left_markedForReset l s).removeAllExamined (keptEnd_bare l _) nonePlaced_bare none
  obtain ⟨u, hu⟩ : ∃ u, u = forgetClears l (removeAllExamined ((markedForReset l s).queuedOfLink l) none
    (markedForReset l s)) := ⟨_, rfl⟩
  have forgotten : Left (Bare l u.engines) (Txn.awaitedBy l) [] u := by
    refine ⟨⟨?_, ?_, rfl⟩, ?_⟩
    · rw [hu]
      exact removed.law.contexts
    · rw [hu]
      exact removed.law.session
    · rw [hu]
      exact removed.listed
  have dropped := (keptEnd_left (keptEnd_bare l u.engines) nonePlaced_bare []).toKeptExam.dropReservations l forgotten
  have final : settledForReset l s = dropReservations l u := by rw [hu]; rfl
  rw [final]
  exact ⟨⟨dropped.law.contexts, dropped.law.session, rfl⟩, dropped.listed⟩

theorem linkFlow_settledForReset (l m : Link) (s : State) : LinkFlow (s.link m) ((settledForReset l s).link m) := by
  obtain ⟨x, dropped⟩ := dropHeldSession_eq l s
  have marked : (markedForReset l s).link m = s.link m := by
    rw [markedForReset, dropped]
    rfl
  have removed := (flow_removeAllExamined ((markedForReset l s).queuedOfLink l) none (markedForReset l s)).links m
  rw [marked] at removed
  exact removed.trans ((flow_dropReservations l (forgetClears l (removeAllExamined
    ((markedForReset l s).queuedOfLink l) none (markedForReset l s)))).links m)

/-- The state after a LINK_RESET, but for the arbiters (R180). -/
theorem takeLinkReset_eq (l : Link) (tag : Tag) (s : State) : takeLinkReset l tag s =
    settle [] s ((settledForReset l s).setLink l { ((settledForReset l s).link l).cleared with
      queue := [Response.mk tag .ok []] }) := by
  have reset : resetLink l s = (settledForReset l s).setLink l ((settledForReset l s).link l).cleared := rfl
  obtain ⟨u, hu⟩ : ∃ u, u = settledForReset l s := ⟨_, rfl⟩
  rw [← hu] at reset ⊢
  have empty : ((resetLink l s).link l).outstanding = [] := by
    rw [reset, State.link_setLink_self]
    rfl
  rw [takeLinkReset, answer_holdTag empty, reset, State.link_setLink_self, State.setLink_setLink]
  rfl

theorem tagOn?_of_manual {e : Engine} {m : Link} {g : Tag} (work : e.work = some (.clearing (.manual (some (m, g))))) :
    e.tagOn? m = some g := by
  rw [Engine.tagOn?, work]
  exact if_pos rfl

/-- No arbiter starts a manual clear. -/
theorem tagOn?_settle (told : List Port) (before s : State) (p : Port) (m : Link) :
    ((settle told before s).engine p).tagOn? m = (s.engine p).tagOn? m :=
  (sameOwed_settle told before s).work p m

end

/-- Settles O50: what the removals leave, and the interface that is cleared. -/
theorem linkReset : Obligations.LinkReset := by
  intro l tag ps s released fits
  obtain ⟨u, hu⟩ : ∃ u, u = s.setLink l { s.link l with sent := putOut l ps } := ⟨_, rfl⟩
  have other : l.other ≠ l := by cases l <;> decide
  have config : (u.link l).config = (s.link l).config := by rw [hu, State.link_setLink_self]
  have beside : u.link l.other = s.link l.other := by rw [hu, State.link_setLink, if_neg other]
  have engines : ∀ p, u.engine p = s.engine p := fun p => by rw [hu, State.engine_setLink]
  have left := left_settledForReset l u
  have reserved : Reserved l [] (settledForReset l u) := reserved_dropReservations l _
  have flow := fun m => linkFlow_settledForReset l m u
  have engine := engine_settledForReset l u
  obtain ⟨v, hv⟩ : ∃ v, v = settledForReset l u := ⟨_, rfl⟩
  obtain ⟨w, hw⟩ : ∃ w, w = v.setLink l { (v.link l).cleared with queue := [Response.mk tag .ok []] } := ⟨_, rfl⟩
  rw [← hv] at left reserved flow engine
  have run : exec (.linkReset l tag ps) s = .next (settle [] u w) := by
    rw [exec_linkReset_taken l tag released fits, ← hu, takeLinkReset_eq, ← hv, ← hw]
  obtain ⟨es, settled⟩ := (settled_settle [] u w).rest
  have link : (settle [] u w).link l = { (v.link l).cleared with queue := [Response.mk tag .ok []] } := by
    rw [settled, hw]
    exact State.link_setLink_self ..
  have linkOther : (settle [] u w).link l.other = v.link l.other := by
    rw [settled, hw]
    exact (State.link_setLink ..).trans (if_neg other)
  refine ⟨settle [] u w, run, ?_, ?_, ?_, ?_, ?_, ?_, fun c x found => ?_, fun r hr holder => ?_, fun x hx mine => ?_,
    fun p m g work own => ?_, ?_, ?_, fun p => ?_⟩
  · rw [link]
  · rw [link]
    rfl
  · rw [link]
    rfl
  · rw [link]
    rfl
  · rw [link]
    exact (flow l).config.trans config
  · rw [settled, hw]
    exact left.law.session
  · rw [settled, hw] at found
    exact left.law.contexts _ (Table.mem_of_find found)
  · rw [settled, hw] at hr
    exact List.not_mem_nil (reserved r hr holder)
  · rw [settled, hw] at hx
    refine Bool.eq_true_of_not_eq_false fun waits => ?_
    exact List.not_mem_nil (left.listed x hx ⟨mine, waits⟩)
  · subst own
    have owed := (tagOn?_settle [] u w p m).symm.trans (tagOn?_of_manual work)
    have forgotten : (forgetClears m u).engine p = v.engine p := (PerPort.get_map ..).trans (engine p).symm
    have silent : (v.engine p).tagOn? m = none := by
      rw [← forgotten]
      exact (tagOn?_forgetClears m m u p).trans (if_pos rfl)
    rw [hw, State.engine_setLink, silent] at owed
    cases owed
  · rw [linkOther, (flow l.other).config, beside]
  · rw [linkOther, (flow l.other).frameErrors, beside]
  · rw [(settled_settle [] u w).config, hw, State.engine_setLink, engine, engines]

end Sys2Proof.Machine
end

section
/-! SUPPORT. The group transaction of one member (R151 to R157, R162). -/
namespace Sys2Proof.Machine

/-! ### The checks of a member -/

/-- The first check of a member's issue that fails, or what follows where none does (R154, R155). -/
theorem memberRefusal_elim {α : Type} (s : State) (x : Context) (h : Handle) (r : Record) (taken : α)
    (refused : Status → α) :
    (memberRefusal s x h r).elim taken refused =
      if x.operation ≠ .probe ∧ r.config.indexWidth ≠ 0 ∧ indexFits r.config.indexWidth x.index = false then
        refused .badParameter
      else if (r.config.access x.link).permits x.operation = false then refused .accessDenied
      else if r.runtime.health ≠ .active then refused .skippedQuarantined
      else if s.reservedAgainst h x.link = true then refused .skippedReserved
      else if s.commitPending h = true then refused .skippedCommit
      else if (s.engine (s.portOf r.config)).config.enable = false ∨
        s.portPermits (s.portOf r.config) x.operation = false then refused .skippedPort
      else taken := by
  have inactive : r.runtime.health.isActive = false ↔ r.runtime.health ≠ .active := Health.isActive_eq_false _
  unfold memberRefusal
  dsimp only
  simp only [apply_ite (fun o : Option Status => o.elim taken refused), Option.elim_some, Option.elim_none, inactive]

/-! ### A context of one member -/

section
variable {l : Link} {tag : Tag} {ps : List Byte} {f : GroupFields} {h : Handle} {c : Nat} {s : State}

/-- The context of a group of one member, which is in a condition. -/
def oneMember (l : Link) (tag : Tag) (f : GroupFields) (h : Handle) (s : State) (m : MemberCondition) : Context :=
  { link := l, tag := tag, group := f.group, operation := f.operation.operation, index := f.operation.index,
    length := f.operation.length, data := f.operation.data, policy := f.policy, deadline := s.after f.deadline,
    epoch := s.epoch, members := [{ handle := h, condition := m }], stopFlag := false }

theorem pendingAt_oneMember : (oneMember l tag f h s .pending).pendingAt 0 h := rfl

/-- The pass over a context of one member issues it. -/
theorem issuePass_oneMember {u : State} {m : MemberCondition}
    (found : u.contexts.find c = some (oneMember l tag f h s m)) :
    issuePass c u = closeIfDone c (issueMember c 0 u) :=
  issuePass_eq found

/-- The report of one member with an outcome that is not OK (R162). -/
theorem report_oneMember {y : Context} {o : Status} (failed : o ≠ .ok)
    (members : y.members = [{ handle := h, condition := .finished o [] }]) (e : BitVec 16) : y.report c e =
      [byteOf y.group, byteOf c, byteOf y.operation.num] ++ wordOf y.epoch.toNat ++ wordOf e.toNat ++ [1, 0] ++
        handleBytes h ++ [o.byte, 0] := by
  have notOk : Member.isOk { handle := h, condition := .finished o [] } = false := by
    cases o with
    | ok => exact absurd rfl failed
    | _ => rfl
  rw [Context.report, members, List.countP_singleton, notOk, List.flatMap_singleton, Member.reportEntry]
  simp only [List.append_nil, List.append_assoc]
  rfl

theorem members_recorded {x : Context} {o : Status} {b : Bool} {m : MemberCondition}
    (members : x.members = [{ handle := h, condition := m }]) :
    (x.recorded 0 o [] b).members = [{ handle := h, condition := .finished o [] }] := by
  rw [Context.recorded, members]
  cases b <;> rfl

/-- A member that fails a check is reported at once (R153, R158, R162). -/
theorem closeIfDone_recorded {o : Status} {u : State} (failed : o ≠ .ok) (fresh : s.contexts.find c = none)
    (contexts : u.contexts = s.contexts.put c (oneMember l tag f h s .pending)) :
    closeIfDone c (recordOutcome c 0 o [] u) = respond l tag .ok
      ([byteOf f.group, byteOf c, byteOf f.operation.operation.num] ++ wordOf s.epoch.toNat ++ wordOf u.epoch.toNat ++
        [1, 0] ++ handleBytes h ++ [o.byte, 0])
      { u with
        contexts := s.contexts
        waiting := if f.policy = .stopOnFail then u.waiting.filter fun w => decide (w.1 ≠ c) else u.waiting } := by
  obtain ⟨x, hx⟩ : ∃ x, x = oneMember l tag f h s .pending := ⟨_, rfl⟩
  rw [← hx] at contexts
  have found : u.contexts.find c = some x := by rw [contexts, Table.find_put_self]
  have stops : x.stops o = true ↔ f.policy = .stopOnFail := by
    rw [stops_eq, hx, decide_eq_true_eq]
    exact ⟨fun h => h.1, fun h => ⟨h, rfl, failed⟩⟩
  obtain ⟨y, hy⟩ : ∃ y, y = x.recorded 0 o [] (x.stops o) := ⟨_, rfl⟩
  have members : y.members = [{ handle := h, condition := .finished o [] }] :=
    hy ▸ members_recorded (m := .pending) (by rw [hx]; rfl)
  have done : y.complete = true := by
    rw [Context.complete, members]
    rfl
  have report := report_oneMember (c := c) failed members u.epoch
  have fields : y.link = l ∧ y.tag = tag ∧ y.group = f.group ∧ y.operation = f.operation.operation ∧
      y.epoch = s.epoch := by
    rw [hy, hx]
    exact ⟨rfl, rfl, rfl, rfl, rfl⟩
  obtain ⟨link, own, group, operation, epoch⟩ := fields
  rw [group, operation, epoch] at report
  rw [recordOutcome_found found, ← hy, if_congr stops rfl rfl, contexts, Table.put_put,
    closeIfDone_reports (x := y) (Table.find_put_self ..) done, link, own, report, ← respond_withContexts]
  dsimp only
  rw [Table.remove_put, Table.remove_of_find_eq_none fresh]

/-- The answer of a group whose one member fails a check (R151, R162). -/
def groupReported (l : Link) (tag : Tag) (ps : List Byte) (f : GroupFields) (h : Handle) (c : Nat) (s : State)
    (o : Status) : State :=
  ({ s with waiting :=
      if f.policy = Policy.stopOnFail then s.waiting.filter fun w => decide (w.1 ≠ c) else s.waiting }).answered
    l tag ps .ok ([byteOf f.group, byteOf c, byteOf f.operation.operation.num] ++ wordOf s.epoch.toNat ++
      wordOf s.epoch.toNat ++ [1, 0] ++ handleBytes h ++ [o.byte, 0])

/-- The accepted request with the context of its one member. -/
def groupOpened (l : Link) (tag : Tag) (ps : List Byte) (f : GroupFields) (h : Handle) (c : Nat) (s : State) : State :=
  { s.accepted l tag ps with contexts := s.contexts.put c (oneMember l tag f h s .pending) }

theorem find_groupOpened :
    (groupOpened l tag ps f h c s).contexts.find c = some (oneMember l tag f h s .pending) :=
  Table.find_put_self ..

/-- A member that fails a check: the report. -/
theorem groupOpened_reports {o : Status} (ha : s.accepts l tag ps) (fresh : s.contexts.find c = none)
    (failed : o ≠ .ok) :
    closeIfDone c (recordOutcome c 0 o [] (groupOpened l tag ps f h c s)) = groupReported l tag ps f h c s o :=
  (closeIfDone_recorded (u := groupOpened l tag ps f h c s) failed fresh rfl).trans
    (respond_accepted (s := { s with waiting :=
      if f.policy = Policy.stopOnFail then s.waiting.filter fun w => decide (w.1 ≠ c) else s.waiting }) .ok _ ha)

/-- The report runs no arbiter. -/
theorem settle_groupReported (o : Status) : settle [] (s.accepted l tag ps) (groupReported l tag ps f h c s o) =
    groupReported l tag ps f h c s o :=
  settle_unchanged rfl rfl fun _ => rfl

/-- A member that is neither placed nor done keeps its context open. -/
theorem closeIfDone_open {u : State} {m : MemberCondition} (open_ : m.isDone = false)
    (found : u.contexts.find c = some (oneMember l tag f h s m)) : closeIfDone c u = u := by
  refine closeIfDone_waits found ?_
  rw [Context.complete, oneMember]
  simp [open_]

theorem setMember_oneMember {u : State} {m n : MemberCondition}
    (found : u.contexts.find c = some (oneMember l tag f h s m)) :
    setMember c 0 n u = { u with contexts := u.contexts.put c (oneMember l tag f h s n) } := by
  rw [setMember, found]
  rfl

theorem overdue_oneMember {m : MemberCondition} (open_ : m.isDone = false) :
    (oneMember l tag f h s m).overdue s.now = false := by
  have later : ¬ s.after f.deadline < s.now := Nat.not_lt.mpr (Nat.le_add_right _ _)
  have none_ : (oneMember l tag f h s m).expired = false := by
    rw [Context.expired, oneMember]
    cases m with
    | finished => cases open_
    | _ => rfl
  rw [Context.overdue, none_, Bool.and_false, Bool.or_false]
  exact decide_eq_false later

/-- A member that passes its checks waits for a slot (R156). -/
theorem claimSlot_waits {r : Record} (full : s.slotOpen l = false) :
    closeIfDone c (claimSlot c 0 (oneMember l tag f h s .pending) h r (groupOpened l tag ps f h c s)) =
      { s.accepted l tag ps with
        contexts := s.contexts.put c (oneMember l tag f h s (.waiting (s.portOf r.config)))
        waiting := s.waiting ++ [(c, 0)] } := by
  have claimed : claimSlot c 0 (oneMember l tag f h s .pending) h r (groupOpened l tag ps f h c s) =
      { s.accepted l tag ps with
        contexts := s.contexts.put c (oneMember l tag f h s (.waiting (s.portOf r.config)))
        waiting := s.waiting ++ [(c, 0)] } := by
    have set := setMember_oneMember (n := .waiting (s.portOf r.config)) (find_groupOpened (ps := ps) (c := c) (l := l)
      (tag := tag) (f := f) (h := h) (s := s))
    have once := Table.put_put s.contexts c (oneMember l tag f h s .pending)
      (oneMember l tag f h s (.waiting (s.portOf r.config)))
    have taken : ¬ (groupOpened l tag ps f h c s).slotOpen l = true := fun open_ =>
      Bool.false_ne_true (full.symm.trans open_)
    rw [← once, claimSlot]
    exact (if_neg taken).trans
      (congrArg (fun t : State => ({ t with waiting := t.waiting ++ [(c, 0)] } : State)) set)
  rw [claimed]
  exact closeIfDone_open rfl (Table.find_put_self ..)

/-- A member that passes its checks is placed (R157). -/
theorem claimSlot_placesMember {r : Record} {n : Nat} (free : s.freeSlot? = some n) (open_ : s.slotOpen l = true) :
    closeIfDone c (claimSlot c 0 (oneMember l tag f h s .pending) h r (groupOpened l tag ps f h c s)) =
      { s.accepted l tag ps with
        contexts := s.contexts.put c (oneMember l tag f h s (.inFlight (s.portOf r.config)))
        pool := s.pool ++ [
          { slot := n, origin := .member c 0, attributed := l, handle := h, snapshot := s.snapshot r.config,
            operation := f.operation.operation
            index := if r.config.indexWidth = 0 ∨ f.operation.operation = .probe then none else f.operation.index
            length := f.operation.length, data := f.operation.data, deadline := s.after f.deadline, epoch := s.epoch,
            retries := 0, losses := 0, orphan := false }] } := by
  have once := Table.put_put s.contexts c (oneMember l tag f h s .pending)
    (oneMember l tag f h s (.inFlight (s.portOf r.config)))
  have late : ¬ (oneMember l tag f h s .pending).overdue s.now = true := by
    rw [overdue_oneMember rfl]
    exact Bool.false_ne_true
  have placed := placeMember_eq (r := r) (h := h) (i := 0) (find_groupOpened (ps := ps) (c := c) (l := l) (tag := tag)
    (f := f) (h := h) (s := s)) free
  have claimed : claimSlot c 0 (oneMember l tag f h s .pending) h r (groupOpened l tag ps f h c s) =
      placeMember c 0 (oneMember l tag f h s .pending) h r (groupOpened l tag ps f h c s) := by
    rw [claimSlot]
    exact (if_pos open_).trans (if_neg late)
  rw [claimed, placed, ← once]
  exact closeIfDone_open rfl (Table.find_put_self ..)

/-- The pass over the one member (R153). -/
theorem issue_groupOpened {r : Record} (record : s.record? h = some r) :
    issueMember c 0 (groupOpened l tag ps f h c s) =
      (memberRefusal s (oneMember l tag f h s .pending) h r).elim
        (claimSlot c 0 (oneMember l tag f h s .pending) h r (groupOpened l tag ps f h c s))
        fun o => recordOutcome c 0 o [] (groupOpened l tag ps f h c s) := by
  have record' : (groupOpened l tag ps f h c s).record? h = some r := record
  have same : memberRefusal (groupOpened l tag ps f h c s) (oneMember l tag f h s .pending) h r =
      memberRefusal s (oneMember l tag f h s .pending) h r := rfl
  have unmarked : ¬ (oneMember l tag f h s .pending).marked ((groupOpened l tag ps f h c s).portOf r.config) =
      true := by
    rw [Context.marked, oneMember]
    simp [MemberCondition.marker?]
  rw [issueMember_record find_groupOpened pendingAt_oneMember record', if_neg unmarked, same]
  cases memberRefusal s (oneMember l tag f h s .pending) h r <;> rfl

theorem exec_groupTransact_block (ha : s.accepts l tag ps) (block : groupTransactBlock? ps = some f) :
    exec (.groupTransact l tag ps) s = .next (groupTransact l tag f (s.accepted l tag ps)) := by
  rw [exec_groupTransact ha, takeGroupTransact, withBlock_some _ _ block]

theorem groupTransact_empty (empty : s.committed.group f.group = []) :
    groupTransact l tag f s = answer l tag .emptyGroup s := by
  rw [groupTransact, empty]
  rfl

theorem groupTransact_full (members : s.committed.group f.group ≠ []) (full : s.freeContext? = none) :
    groupTransact l tag f s = answer l tag .noGroupContext s := by
  rw [groupTransact, full]
  exact if_neg (by simpa using members)

theorem groupTransact_starts (members : s.committed.group f.group ≠ []) (free : s.freeContext? = some c) :
    groupTransact l tag f s = startGroup l tag f (s.committed.group f.group) c s := by
  rw [groupTransact, free]
  exact if_neg (by simpa using members)

theorem find_of_freeContext? (free : s.freeContext? = some c) : s.contexts.find c = none := by
  obtain ⟨-, unused, -⟩ := lowestFree_eq_some.mp free
  exact Option.isNone_iff_eq_none.mp (by rw [← Option.not_isSome, unused]; rfl)

/-- A group of one member, from its acceptance to the end of the command. -/
theorem exec_groupTransact_one (ha : s.accepts l tag ps) (block : groupTransactBlock? ps = some f)
    (members : s.committed.group f.group = [h]) (free : s.freeContext? = some c) :
    exec (.groupTransact l tag ps) s = .next (settle [] (s.accepted l tag ps)
      (closeIfDone c (issueMember c 0 (groupOpened l tag ps f h c s)))) := by
  have members' : (s.accepted l tag ps).committed.group f.group = [h] := members
  rw [exec_groupTransact_block ha block, groupTransact_starts (s := s.accepted l tag ps)
    (by rw [members']; exact List.cons_ne_nil _ _) free, members', startGroup]
  exact congrArg (fun u => Host.Outcome.next (settle [] (s.accepted l tag ps) u))
    (issuePass_oneMember (u := groupOpened l tag ps f h c s) find_groupOpened)

end

theorem elim_settled {c : Nat} (before : State) (o : Option Status) (u : State) (f : Status → State) :
    settle [] before (closeIfDone c (o.elim u f)) =
      o.elim (settle [] before (closeIfDone c u)) fun o => settle [] before (closeIfDone c (f o)) := by
  cases o <;> rfl

/-- Settles O33: the one member is refused, placed, or waits. -/
theorem groupOfOneMember : Obligations.GroupOfOneMember := by
  intro l tag ps f s ha block
  refine ⟨fun empty => ?_, fun members full => ?_, fun h c members free =>
    ⟨oneMember l tag f h s, groupReported l tag ps f h c s, rfl, rfl, fun gone => ?_, fun r record => ?_⟩⟩
  · rw [exec_groupTransact_block ha block, groupTransact_empty (by exact empty), answer_accepted _ ha]
  · rw [exec_groupTransact_block ha block, groupTransact_full (by exact members) (by exact full), answer_accepted _ ha]
  · have gone' : (groupOpened l tag ps f h c s).record? h = none := gone
    rw [exec_groupTransact_one ha block members free, issueMember_stale find_groupOpened pendingAt_oneMember gone',
      groupOpened_reports ha (find_of_freeContext? free) (by decide), settle_groupReported]
  · have fresh := find_of_freeContext? free
    have reports : ∀ o, o ≠ .ok → settle [] (s.accepted l tag ps)
        (closeIfDone c (recordOutcome c 0 o [] (groupOpened l tag ps f h c s))) = groupReported l tag ps f h c s o :=
      fun o failed => by rw [groupOpened_reports ha fresh failed, settle_groupReported]
    have waits (full : s.slotOpen l = false) := (congrArg (settle [] (s.accepted l tag ps))
      (claimSlot_waits (ps := ps) (c := c) (tag := tag) (f := f) (h := h) (r := r) full)).trans
        (settle_unchanged rfl rfl fun _ => rfl)
    rw [exec_groupTransact_one ha block members free, issue_groupOpened record, elim_settled, memberRefusal_elim]
    refine congrArg Host.Outcome.next (if_congr Iff.rfl (reports _ (by decide))
        (if_congr Iff.rfl (reports _ (by decide))
      (if_congr Iff.rfl (reports _ (by decide)) (if_congr Iff.rfl (reports _ (by decide))
        (if_congr Iff.rfl (reports _ (by decide)) (if_congr Iff.rfl (reports _ (by decide)) ?_))))))
    cases slot : s.freeSlot? with
    | none => exact waits (slotOpen_of_none l slot)
    | some n =>
      have open_ := slotOpen_of_freeSlot? l slot
      by_cases room : s.attributed l < 32
      · rw [decide_eq_true room] at open_ ⊢
        exact congrArg (settle [] (s.accepted l tag ps)) (claimSlot_placesMember slot open_)
      · rw [decide_eq_false room] at open_ ⊢
        exact waits open_

end Sys2Proof.Machine
end

section
/-! SUPPORT. The first issue pass of a group (R151 to R156): what the walk keeps of the context, position by position.
-/
namespace Sys2Proof.Machine

/-! ### Members and markers -/

/-- The ports on which the members of a context have markers (R152). -/
def Context.markers (x : Context) : List Port :=
  x.members.filterMap fun m => m.condition.marker?

theorem marked_iff_mem {x : Context} {p : Port} : x.marked p = true ↔ p ∈ x.markers := by
  rw [marked_iff, Context.markers, List.mem_filterMap]

theorem split_at {x : Context} {i : Nat} {h : Handle} (pending : x.pendingAt i h) :
    ∃ front back, x.members = front ++ { handle := h, condition := .pending } :: back ∧ front.length = i := by
  obtain ⟨bound, here⟩ := List.getElem?_eq_some_iff.mp pending
  refine ⟨x.members.take i, x.members.drop (i + 1), ?_, List.length_take_of_le bound.le⟩
  rw [← here, List.getElem_cons_drop, List.take_append_drop]

/-- The markers after one pending member has changed its condition. -/
theorem markers_setMember {x : Context} {front back : List Member} {h : Handle} (m : MemberCondition)
    (members : x.members = front ++ { handle := h, condition := .pending } :: back) :
    (x.setMember front.length m).markers =
      (front.filterMap fun m => m.condition.marker?) ++ m.marker?.toList ++
        back.filterMap fun m => m.condition.marker? := by
  rw [Context.markers, Context.setMember]
  dsimp only
  rw [members, modify_member, List.filterMap_append, List.filterMap_cons, List.append_assoc]
  cases m.marker? <;> rfl

theorem markers_split {x : Context} {front back : List Member} {h : Handle}
    (members : x.members = front ++ { handle := h, condition := .pending } :: back) :
    x.markers = (front.filterMap fun m => m.condition.marker?) ++ back.filterMap fun m => m.condition.marker? := by
  rw [Context.markers, members, List.filterMap_append, List.filterMap_cons]
  rfl

theorem pendingAt_setMember {x : Context} {i j : Nat} {m : MemberCondition} {h : Handle} (issued : m ≠ .pending) :
    (x.setMember i m).pendingAt j h ↔ j ≠ i ∧ x.pendingAt j h := by
  rw [Context.pendingAt, Context.setMember, Context.pendingAt, List.getElem?_modify]
  by_cases here : j = i
  · subst here
    cases x.members[j]? <;> simp [issued]
  · simp [here, Ne.symm here]

theorem handles_setMember (x : Context) (i : Nat) (m : MemberCondition) :
    (x.setMember i m).members.map Member.handle = x.members.map Member.handle := by
  refine List.ext_getElem? fun j => ?_
  rw [List.getElem?_map, List.getElem?_map, Context.setMember, List.getElem?_modify]
  cases x.members[j]? with
  | none => rfl
  | some a =>
    by_cases here : i = j
    · simp [here]
    · simp [here]

/-! ### The stop policy -/

theorem recorded_eq (x : Context) (i : Nat) (o : Status) (d : List Byte) : x.recorded i o d false =
    x.setMember i (.finished o d) := by
  rw [Context.recorded, Bool.or_false, funext underPolicy_false, List.map_id']
  rfl

theorem handle_underPolicy (b : Bool) (m : Member) : (m.underPolicy b).handle = m.handle := by
  obtain ⟨_, _ | _ | _ | _⟩ := m <;> cases b <;> rfl

theorem marker_underPolicy (b : Bool) (m : Member) :
    (m.underPolicy b).condition.marker? = m.condition.marker? ∨ (m.underPolicy b).condition.marker? = none := by
  obtain ⟨_, _ | _ | _ | _⟩ := m <;> cases b <;> simp [Member.underPolicy, MemberCondition.marker?]

/-- The stop policy takes markers away and adds none. -/
theorem sublist_markers {x y : Context} {g : Member → Member} (members : y.members = x.members.map g)
    (fewer : ∀ m, (g m).condition.marker? = m.condition.marker? ∨ (g m).condition.marker? = none) :
    y.markers.Sublist x.markers := by
  rw [Context.markers, Context.markers, members]
  induction x.members with
  | nil => exact .slnil
  | cons m rest ih =>
    rw [List.map_cons, List.filterMap_cons, List.filterMap_cons]
    rcases fewer m with same | none_
    · rw [same]
      cases m.condition.marker? with
      | none => exact ih
      | some p => exact ih.cons_cons p
    · rw [none_]
      cases m.condition.marker? with
      | none => exact ih
      | some p => exact ih.cons p

theorem recorded_members (x : Context) (i : Nat) (o : Status) (d : List Byte) (b : Bool) :
    (x.recorded i o d b).members = (x.setMember i (.finished o d)).members.map (Member.underPolicy b) := rfl

/-- After the stop policy no member awaits its issue (R159). -/
theorem pendingAt_recorded_true {x : Context} {i j : Nat} {o : Status} {d : List Byte} {h : Handle} :
    ¬ (x.recorded i o d true).pendingAt j h := by
  intro pending
  obtain ⟨m, -, same⟩ := List.mem_map.mp (List.mem_of_getElem? pending)
  obtain ⟨_, _ | _ | _ | _⟩ := m <;> cases same

/-! ### The walk -/

/-- The context after so many positions of its first issue pass (R152, R153): pending members of those positions are
behind markers. -/
structure Issued (s : State) (x₀ : Context) (k : Nat) (x : Context) : Prop where
  same : ({ x with members := x₀.members, stopFlag := x₀.stopFlag } : Context) = x₀
  handles : x.members.map Member.handle = x₀.members.map Member.handle
  markers : x.markers.Nodup
  behind : ∀ i < k, ∀ h, x.pendingAt i h → ∃ r, s.record? h = some r ∧ x.marked (s.portOf r.config) = true

section
variable {s : State} {x₀ x : Context} {k : Nat} {h : Handle}

/-- A position whose member stays as it is. -/
theorem Issued.stays (w : Issued s x₀ k x)
    (behind : ∀ h, x.pendingAt k h → ∃ r, s.record? h = some r ∧ x.marked (s.portOf r.config) = true) :
    Issued s x₀ (k + 1) x := by
  refine ⟨w.same, w.handles, w.markers, fun i below h pending => ?_⟩
  rcases Nat.lt_succ_iff_lt_or_eq.mp below with before | rfl
  · exact w.behind i before h pending
  · exact behind h pending

/-- A position whose pending member gets a marker on a port without one, or an outcome. -/
theorem Issued.set (w : Issued s x₀ k x) (pending : x.pendingAt k h) {m : MemberCondition} (issued : m ≠ .pending)
    (fresh : ∀ p, m.marker? = some p → x.marked p = false) : Issued s x₀ (k + 1) (x.setMember k m) := by
  obtain ⟨front, back, members, rfl⟩ := split_at pending
  have after := markers_setMember m members
  have before := markers_split members
  refine ⟨w.same, (handles_setMember ..).trans w.handles, ?_, fun i below g waits => ?_⟩
  · have distinct := w.markers
    rw [before] at distinct
    rw [after]
    cases marker : m.marker? with
    | none => simpa using distinct
    | some p =>
      have absent : p ∉ x.markers := fun member => by
        have unmarked := fresh p marker
        rw [marked_iff_mem.mpr member] at unmarked
        cases unmarked
      rw [before] at absent
      rw [Option.toList_some, List.append_assoc, List.singleton_append]
      exact List.nodup_middle.mpr (List.nodup_cons.mpr ⟨absent, distinct⟩)
  · obtain ⟨other, waits⟩ := (pendingAt_setMember issued).mp waits
    obtain ⟨r, record, marked⟩ := w.behind i ((Nat.lt_succ_iff_lt_or_eq.mp below).resolve_right other) g waits
    refine ⟨r, record, marked_iff_mem.mpr ?_⟩
    have member := marked_iff_mem.mp marked
    rw [before] at member
    rw [after, List.append_assoc]
    exact (List.mem_append.mp member).elim (List.mem_append_left _) fun b =>
      List.mem_append_right _ (List.mem_append_right _ b)

/-- A position whose pending member gets an outcome at once (R153, R159). -/
theorem Issued.recorded (w : Issued s x₀ k x) (pending : x.pendingAt k h) (o : Status) (d : List Byte) (b : Bool) :
    Issued s x₀ (k + 1) (x.recorded k o d b) := by
  have set := w.set pending (m := .finished o d) (by simp) fun p marker => by cases marker
  cases b
  · rw [recorded_eq]
    exact set
  · refine ⟨w.same, ?_, set.markers.sublist (sublist_markers (recorded_members ..) (marker_underPolicy true)),
      fun i _ g waits => absurd waits pendingAt_recorded_true⟩
    rw [recorded_members, List.map_map, ← set.handles]
    exact List.map_congr_left fun m _ => handle_underPolicy true m

end

/-- The state after so many positions of the first issue pass of a context (R153): nothing is answered on the way. -/
structure Walked (s : State) (c : Nat) (x₀ : Context) (k : Nat) (u : State) : Prop where
  context : ∃ x, u.contexts.find c = some x ∧ Issued s x₀ k x
  links : u.links = s.links
  records : u.records = s.records
  generations : u.generations = s.generations
  segments : u.segments = s.segments
  epoch : u.epoch = s.epoch

section
variable {s u v : State} {c k : Nat} {x₀ x y : Context} {h : Handle}

theorem Walked.of_context (w : Walked s c x₀ k u) (found : v.contexts.find c = some y) (issued : Issued s x₀ (k + 1) y)
    (rest : v.links = u.links ∧ v.records = u.records ∧ v.generations = u.generations ∧ v.segments = u.segments ∧
      v.epoch = u.epoch) : Walked s c x₀ (k + 1) v := by
  obtain ⟨links, records, generations, segments, epoch⟩ := rest
  exact ⟨⟨y, found, issued⟩, links.trans w.links, records.trans w.records, generations.trans w.generations,
    segments.trans w.segments, epoch.trans w.epoch⟩

theorem Walked.record? (w : Walked s c x₀ k u) (h : Handle) : u.record? h = s.record? h :=
  record_congr h w.records w.generations

theorem Walked.recorded (w : Walked s c x₀ k u) (found : u.contexts.find c = some x) (issued : Issued s x₀ k x)
    (pending : x.pendingAt k h) (o : Status) : Walked s c x₀ (k + 1) (recordOutcome c k o [] u) := by
  rw [recordOutcome_found found]
  exact w.of_context (Table.find_put_self ..) (issued.recorded pending o [] (x.stops o)) ⟨rfl, rfl, rfl, rfl, rfl⟩

theorem Walked.claims (w : Walked s c x₀ k u) {r : Record} (found : u.contexts.find c = some x)
    (issued : Issued s x₀ k x)
    (pending : x.pendingAt k h) (unmarked : x.marked (u.portOf r.config) = false) :
    Walked s c x₀ (k + 1) (claimSlot c k x h r u) := by
  have set (m : MemberCondition) (marker : m.marker? = some (u.portOf r.config)) :
      Issued s x₀ (k + 1) (x.setMember k m) := by
    refine issued.set pending (fun none_ => ?_) fun p other => ?_
    · rw [none_] at marker
      cases marker
    · rw [← Option.some.inj (marker.symm.trans other)]
      exact unmarked
  rw [claimSlot]
  split
  · next open_ =>
    split
    · exact w.recorded found issued pending .deadlineExpired
    · obtain ⟨n, free⟩ := freeSlot?_of_slotOpen open_
      rw [placeMember_eq found free]
      exact w.of_context (Table.find_put_self ..) (set (.inFlight (u.portOf r.config)) rfl) ⟨rfl, rfl, rfl, rfl, rfl⟩
  · have waits : setMember c k (.waiting (u.portOf r.config)) u =
        u.setContext c (x.setMember k (.waiting (u.portOf r.config))) := by
      rw [setMember, found]
    rw [waits]
    exact w.of_context (Table.find_put_self ..) (set (.waiting (u.portOf r.config)) rfl) ⟨rfl, rfl, rfl, rfl, rfl⟩

/-- One position of the walk (R153). -/
theorem Walked.issueMember (w : Walked s c x₀ k u) : Walked s c x₀ (k + 1) (issueMember c k u) := by
  obtain ⟨x, found, issued⟩ := w.context
  by_cases waits : ∃ h, x.pendingAt k h
  · obtain ⟨h, pending⟩ := waits
    cases record : u.record? h with
    | none =>
      rw [issueMember_stale found pending record]
      exact w.recorded found issued pending .staleHandle
    | some r =>
      rw [issueMember_record found pending record]
      split
      · next marked =>
        refine w.of_context found (issued.stays fun g same => ⟨r, ?_, ?_⟩) ⟨rfl, rfl, rfl, rfl, rfl⟩
        · obtain rfl : h = g := by simpa using pending.symm.trans same
          exact (w.record? h).symm.trans record
        · rwa [← portOf_congr w.segments]
      · next unmarked =>
        cases memberRefusal u x h r with
        | some o => exact w.recorded found issued pending o
        | none => exact w.claims found issued pending (Bool.eq_false_of_not_eq_true unmarked)
  · rw [issueMember_passes found (not_exists.mp waits)]
    exact w.of_context found (issued.stays fun h pending => absurd ⟨h, pending⟩ waits) ⟨rfl, rfl, rfl, rfl, rfl⟩

theorem Walked.walk (w : Walked s c x₀ 0 u) : ∀ n,
    Walked s c x₀ n ((List.range n).foldl (fun t i => Machine.issueMember c i t) u)
  | 0 => w
  | n + 1 => by
    rw [List.range_succ, List.foldl_append]
    exact (w.walk n).issueMember

end

/-! ### The context of an accepted group -/

section
variable {l : Link} {tag : Tag} {f : GroupFields} {c : Nat} {s : State} {hs : List Handle}

theorem issued_newContext : Issued s (newContext l tag f hs s) 0 (newContext l tag f hs s) := by
  refine ⟨rfl, rfl, ?_, fun i none_ => absurd none_ (Nat.not_lt_zero i)⟩
  have empty : (newContext l tag f hs s).markers = [] := by
    refine List.filterMap_eq_nil_iff.mpr fun m member => ?_
    obtain ⟨h, -, rfl⟩ := List.mem_map.mp member
    rfl
  rw [empty]
  exact .nil

/-- What the first issue pass of an accepted group leaves (R151 to R153, R162). -/
theorem issuePass_new : ∃ x, Issued s (newContext l tag f hs s) hs.length x ∧
    ((x.complete = true ∧ ∃ u : State, u.epoch = s.epoch ∧ u.links = s.links ∧
          issuePass c (s.setContext c (newContext l tag f hs s)) =
            { respond l tag .ok (x.report c s.epoch) u with contexts := u.contexts.remove c }) ∨
        (x.complete = false ∧ ∃ u : State, u.links = s.links ∧ u.contexts.find c = some x ∧
          issuePass c (s.setContext c (newContext l tag f hs s)) = u)) := by
  have found : (s.setContext c (newContext l tag f hs s)).contexts.find c = some (newContext l tag f hs s) :=
    Table.find_put_self ..
  have start : Walked s c (newContext l tag f hs s) 0 (s.setContext c (newContext l tag f hs s)) :=
    ⟨⟨_, found, issued_newContext⟩, rfl, rfl, rfl, rfl, rfl⟩
  have length : (newContext l tag f hs s).members.length = hs.length := List.length_map ..
  have w := start.walk hs.length
  obtain ⟨u, hu⟩ : ∃ u, u = (List.range hs.length).foldl (fun t i => issueMember c i t)
    (s.setContext c (newContext l tag f hs s)) := ⟨_, rfl⟩
  have pass : issuePass c (s.setContext c (newContext l tag f hs s)) = closeIfDone c u := by
    rw [issuePass_eq found, length, hu]
  rw [← hu] at w
  obtain ⟨x, here, issued⟩ := w.context
  have link : x.link = l := congrArg Context.link issued.same
  have own : x.tag = tag := congrArg Context.tag issued.same
  refine ⟨x, issued, ?_⟩
  cases done : x.complete
  · exact .inr ⟨rfl, u, w.links, here, by rw [pass, closeIfDone_waits here done]⟩
  · refine .inl ⟨rfl, u, w.epoch, w.links, ?_⟩
    rw [pass, closeIfDone_reports here done, link, own, w.epoch]

end

/-- A pending member after the pass is behind a marker (R153). -/
theorem Issued.pending {s : State} {x₀ x : Context} {m : Member} (issued : Issued s x₀ x₀.members.length x)
    (member : m ∈ x.members) (waits : m.condition = .pending) :
    ∃ r, s.record? m.handle = some r ∧ x.marked (s.portOf r.config) = true := by
  have length : x.members.length = x₀.members.length := by
    have lengths := congrArg List.length issued.handles
    rwa [List.length_map, List.length_map] at lengths
  obtain ⟨i, here⟩ := List.getElem?_of_mem member
  obtain ⟨bound, -⟩ := List.getElem?_eq_some_iff.mp here
  refine issued.behind i (length ▸ bound) m.handle (here.trans ?_)
  rw [← waits]

theorem exec_groupTransact_starts {l : Link} {tag : Tag} {ps : List Byte} {f : GroupFields} {c : Nat} {s : State}
    (ha : s.accepts l tag ps) (block : groupTransactBlock? ps = some f) (members : s.committed.group f.group ≠ [])
    (free : s.freeContext? = some c) : exec (.groupTransact l tag ps) s = .next (settle [] (s.accepted l tag ps)
      (issuePass c ((s.accepted l tag ps).setContext c
        (newContext l tag f (s.committed.group f.group) (s.accepted l tag ps))))) := by
  rw [exec_groupTransact_block ha block, groupTransact_starts (s := s.accepted l tag ps) members free]
  rfl

/-- Settles O34: the walk of the first issue pass, and the end of its context or the markers it leaves. -/
theorem groupPendingOnlyBehindAMarker : Obligations.GroupPendingOnlyBehindAMarker := by
  intro l tag ps f c s ha block members free
  have run := exec_groupTransact_starts ha block members free
  have queue := link_accepted_queue s l l tag ps
  have held := accepted_outstanding s l tag ps
  obtain ⟨a, accepted⟩ : ∃ a, a = s.accepted l tag ps := ⟨_, rfl⟩
  have fields : a.epoch = s.epoch ∧ a.now = s.now ∧ a.records = s.records ∧ a.generations = s.generations ∧
      a.segments = s.segments := accepted ▸ ⟨rfl, rfl, rfl, rfl, rfl⟩
  rw [← accepted] at run queue held
  obtain ⟨epoch, now, records, generations, segments⟩ := fields
  obtain ⟨x, issued, ends⟩ := issuePass_new (c := c) (f := f) (hs := s.committed.group f.group) (s := a) (l := l)
    (tag := tag)
  obtain ⟨v, hv⟩ : ∃ v, v = issuePass c (a.setContext c (newContext l tag f (s.committed.group f.group) a)) := ⟨_, rfl⟩
  rw [← hv] at run ends
  obtain ⟨es, settled⟩ := (settled_settle [] a v).rest
  have same := issued.same
  have length : (newContext l tag f (s.committed.group f.group) a).members.length =
      (s.committed.group f.group).length :=
    List.length_map ..
  rw [← length] at issued
  refine ⟨settle [] a v, x, run, congrArg Context.link same, congrArg Context.tag same, congrArg Context.group same,
    congrArg Context.operation same, congrArg Context.index same, congrArg Context.length same,
    congrArg Context.data same, congrArg Context.policy same, (congrArg Context.deadline same).trans ?_,
    (congrArg Context.epoch same).trans epoch, issued.handles.trans ?_, ?_⟩
  · exact congrArg (· + Config.ms f.deadline) now
  · exact (List.map_map ..).trans (List.map_id _)
  rw [settled]
  rcases ends with ⟨done, u, -, links, reported⟩ | ⟨open_, u, links, found, left⟩
  · refine .inl ⟨complete_iff.mp done, ?_, ?_⟩
    · rw [reported]
      exact Table.find_remove_self ..
    · have link : u.link l = a.link l := congrArg (PerLink.get · l) links
      rw [reported, respond_outstanding _ _ _ _ _ (by rw [link]; exact held), link, queue, epoch]
      exact congrArg LinkState.queue (State.link_setLink_self ..)
  · refine .inr ⟨?_, ?_, ?_, issued.markers, fun m member waits => ?_⟩
    · obtain ⟨m, member, unfinished⟩ := List.all_eq_false.mp open_
      exact ⟨m, member, fun o read finished => unfinished (by rw [finished]; rfl)⟩
    · rw [left]
      exact found
    · rw [left]
      exact (congrArg (fun ls => (PerLink.get ls l).queue) links).trans queue
    · obtain ⟨r, record, marked⟩ := issued.pending member waits
      rw [record_congr m.handle records generations] at record
      rw [portOf_congr segments] at marked
      exact ⟨r, record, marked⟩

end Sys2Proof.Machine
end

section
/-! SUPPORT. What a PREEMPT arming removes (R40, R147), and whom it tells, whether or not the commit point follows. -/
namespace Sys2Proof.Machine

/-! ### What stands after the arming -/

section
variable {s : State}

theorem mem_preempted {y : Txn} (member : y ∈ s.pool) (pending : s.commitPending y.handle = true)
    (queued : s.isActive y = false) : y ∈ s.preempted := by
  refine List.mem_flatMap.mpr ⟨y.snapshot.port, by cases y.snapshot.port <;> decide, ?_⟩
  exact List.mem_filter.mpr ⟨List.mem_filter.mpr ⟨member, by simp [queued]⟩, pending⟩

theorem drains_preempted (s : State) : s.Drains (fun h => s.commitPending h = true) s.preempted := by
  refine ⟨fun h pending admitted => Bool.false_ne_true (admitted.2.symm.trans pending), fun x hx pending => ?_⟩
  cases active : s.isActive x
  · exact .inr (mem_preempted hx pending active)
  · exact .inl rfl

/-- Revocations change reservations and attention sets alone. -/
theorem foldl_revoke (P : State → Prop) (step : ∀ u h, P u → P (revokeReservation h u)) (hs : List Handle) (h : P s) :
    P (hs.foldl (fun u h => revokeReservation h u) s) :=
  foldl_keeps _ (fun u h hu => step u h hu) hs h

theorem drains_preempt (s : State) : (preempt s).Drains (fun h => s.commitPending h = true) [] := by
  rw [preempt]
  refine foldl_revoke (fun u => u.Drains (fun h => s.commitPending h = true) []) (fun u h d => ?_) _
    ((drains_preempted s).removeAll _)
  exact d.congr (sameGates_revokeReservation h u) fun x hx => .inl (by rwa [pool_revokeReservation] at hx)

theorem reservation?_revokeReservation_none {h j : Handle} (none_ : s.reservation? j = none) :
    (revokeReservation h s).reservation? j = none := by
  rw [revokeReservation]
  split
  · exact reservation?_removeReservation_of (.inr none_)
  · exact none_

theorem reservation?_foldl_revoke : ∀ (hs : List Handle) {s : State} {j : Handle}, j ∈ hs →
    (hs.foldl (fun u h => revokeReservation h u) s).reservation? j = none := by
  intro hs
  induction hs with
  | nil => exact fun h => absurd h List.not_mem_nil
  | cons h rest ih =>
    intro s j member
    rw [List.foldl_cons]
    rcases List.mem_cons.mp member with rfl | later
    · exact foldl_revoke (fun u => u.reservation? j = none) (fun u _ none_ => reservation?_revokeReservation_none none_)
        rest (reservation?_revokeReservation j s)
    · exact ih later

theorem reservation?_preempt {j : Handle} (affected : j ∈ s.session.affected) : (preempt s).reservation? j = none :=
  reservation?_foldl_revoke _ affected

/-! ### The answers of the removed work -/

/-- The response that a link is to have, once a transaction that owes it has left the pool (R60). -/
structure State.Answers (m : Link) (hand : List Tag) (y : Txn) (answer : Response) (s : State) : Prop where
  owes : s.Owes m hand
  answered : y ∈ s.pool ∨ answer ∈ (s.link m).queue

theorem mem_queue_of_flow {t : State} {m : Link} {a : Response} (f : Flow s t) (h : a ∈ (s.link m).queue) :
    a ∈ (t.link m).queue := by
  obtain ⟨added, queue⟩ := (f.links m).queue
  rw [queue]
  exact List.mem_append_left _ h

theorem mem_queue_respond {m : Link} {x : Tag} (o : Status) (d : List Byte) (held : x ∈ (s.link m).outstanding) :
    Response.mk x o d ∈ ((respond m x o d s).link m).queue := by
  rw [respond_outstanding _ _ _ _ _ held, State.link_setLink_self]
  exact List.mem_append_right _ (List.mem_singleton_self _)

/-- What a removal starts from: the slot is FREE, and the record of a probe is QUARANTINED again (R57). -/
def withoutQueued (t : Txn) (s : State) : State :=
  (if t.origin.isProbe then unprobe t.handle s else s).withoutSlot t.slot

theorem pool_withoutQueued (t : Txn) (s : State) :
    (withoutQueued t s).pool = s.pool.filter fun x => decide (x.slot ≠ t.slot) := by
  rw [withoutQueued]
  split
  · exact congrArg _ (pool_unprobe t.handle s).1
  · rfl

/-- A removal that is no success raises nothing: it keeps what the fan-out and a response keep. -/
theorem KeptFan.removeQueued {P : State → Prop} (k : KeptFan P)
    (answers : ∀ {u : State} (l : Link) (x : Tag) (o : Status) (d : List Byte), P u → P (respond l x o d u)) {t : Txn}
    {o : Status} (failed : o ≠ .ok) (h : P (withoutQueued t s)) : P (Machine.removeQueued t (some o) s) := by
  have freed : P (freeSlot t.slot (if t.origin.isProbe then Machine.unprobe t.handle s else s)) := k.handOut h
  obtain ⟨u, hu⟩ : ∃ u, u = freeSlot t.slot (if t.origin.isProbe then Machine.unprobe t.handle s else s) := ⟨_, rfl⟩
  rw [← hu] at freed
  rw [Machine.removeQueued, ← hu]
  rw [deliver, if_neg (c := t.origin.isProbe = true ∧ o = .ok) fun both => failed both.2]
  split
  · exact freed
  · unfold deliverTo
    split
    · exact answers _ _ _ _ freed
    · dsimp only
      rw [if_neg failed]
      exact answers _ _ _ _ freed
    · exact k.issuePass _ (k.recordOutcome _ _ _ _ freed)

/-- The removed transaction's own answer (R57, R60). -/
theorem answered_removeQueued {m : Link} {hand : List Tag} {y : Txn} {x : Tag} {o : Status} (owes : s.Owes m hand)
    (member : y ∈ s.pool) (waits : y.orphan = false) (origin : y.origin = .transact m x ∨ y.origin = .releaseProbe m x)
    (failed : o ≠ .ok) : Response.mk x o (y.result []) ∈ ((removeQueued y (some o) s).link m).queue := by
  have tag : y.tagOn? m = some x := by
    rcases origin with h | h <;> simp [Txn.tagOn?, waits, h]
  obtain ⟨v, hv⟩ : ∃ v, v = if y.origin.isProbe then unprobe y.handle s else s := ⟨_, rfl⟩
  have before : v.Owes m hand ∧ y ∈ v.pool := by
    rw [hv]
    split
    · exact ⟨owes.congr (sameOwed_unprobe y.handle s), by rwa [(pool_unprobe y.handle s).1]⟩
    · exact ⟨owes, member⟩
  obtain ⟨u, hu⟩ : ∃ u, u = freeSlot y.slot v := ⟨_, rfl⟩
  have held : x ∈ (u.link m).outstanding := by
    have after := before.1.freeSlot before.2
    rw [tag, ← hu] at after
    exact outstanding_of_owes after
  have none_ : y.dataFor o [] = [] := by rw [Txn.dataFor, ite_self]
  rw [removeQueued, ← hv, ← hu]
  rw [deliver, waits, if_neg Bool.false_ne_true]
  rcases origin with h | h
  · simp only [deliverTo, h, none_]
    exact mem_queue_respond o _ held
  · simp only [deliverTo, h, if_neg failed]
    exact mem_queue_respond o _ held

theorem keptFan_mem_pool (y : Txn) : KeptFan fun u => y ∈ u.pool where
  waiting _ h := h
  setContext _ _ _ h := h
  closeContext _ _ h := by
    change y ∈ (respond ..).pool
    rwa [respond_pool]
  placeMember _ _ _ _ _ _ _ _ _ _ _ _ h := by
    rw [place]
    split
    · exact h
    · exact List.mem_append_left _ h

theorem mem_pool_removeQueued {y t : Txn} {o : Status} (member : y ∈ s.pool) (other : y.slot ≠ t.slot)
    (failed : o ≠ .ok) : y ∈ (removeQueued t (some o) s).pool := by
  refine (keptFan_mem_pool y).removeQueued (fun _ _ _ _ h => by rwa [respond_pool]) failed ?_
  rw [pool_withoutQueued]
  exact List.mem_filter.mpr ⟨member, decide_eq_true other⟩

theorem State.Answers.removeQueued {m : Link} {hand : List Tag} {y t : Txn} {x : Tag} {o : Status}
    (h : s.Answers m hand y (Response.mk x o (y.result []))) (member : t ∈ s.pool) (waits : y.orphan = false)
    (origin : y.origin = .transact m x ∨ y.origin = .releaseProbe m x) (failed : o ≠ .ok) :
    (removeQueued t (some o) s).Answers m hand y (Response.mk x o (y.result [])) := by
  refine ⟨(keptQueue_owes m hand).removeQueued o member h.owes, ?_⟩
  rcases h.answered with pooled | answered
  · by_cases same : t = y
    · rw [same]
      exact .inr (answered_removeQueued h.owes pooled waits origin failed)
    · refine .inl (mem_pool_removeQueued pooled (fun slots => same ?_) failed)
      exact List.inj_on_of_nodup_map h.owes.slots member pooled slots.symm
  · exact .inr (mem_queue_of_flow (flow_removeQueued t (some o) s) answered)

/-- A PREEMPT arming answers what was queued on an affected record and not orphaned (R40, R57). -/
theorem answered_preempt {m : Link} {hand : List Tag} {y : Txn} {x : Tag} (owes : s.Owes m hand) (member : y ∈ s.pool)
    (pending : s.commitPending y.handle = true) (queued : s.isActive y = false) (waits : y.orphan = false)
    (origin : y.origin = .transact m x ∨ y.origin = .releaseProbe m x) :
    Response.mk x .cancelledCommit (y.result []) ∈ ((preempt s).link m).queue := by
  have start : s.Answers m hand y (Response.mk x .cancelledCommit (y.result [])) := ⟨owes, .inl member⟩
  have removed : (removeAll s.preempted (some .cancelledCommit) s).Answers m hand y
      (Response.mk x .cancelledCommit (y.result [])) :=
    removeAll_keeps (fun _ _ _ pooled h => h.removeQueued pooled waits origin nofun) start
  have drained := (drains_preempted s).removeAll .cancelledCommit
  obtain ⟨u, hu⟩ : ∃ u, u = removeAll s.preempted (some .cancelledCommit) s := ⟨_, rfl⟩
  have engines : u.engines = s.engines := hu ▸ (flow_removeAll s.preempted (some .cancelledCommit) s).engines
  rw [← hu] at removed drained
  have gone : y ∉ u.pool := fun pooled => by
    rcases drained.queued y pooled pending with active | listed
    · rw [State.isActive, State.engine, engines] at active
      exact Bool.false_ne_true (queued.symm.trans active)
    · exact List.not_mem_nil listed
  rw [preempt, ← hu]
  exact foldl_revoke (fun v => Response.mk x .cancelledCommit (y.result []) ∈ (v.link m).queue)
    (fun v h held => mem_queue_of_flow (flow_revokeReservation h v) held) _ (removed.answered.resolve_left gone)

/-! ### The holders that are told -/

/-- The link has RESERVATION_REVOKED for a reservation that it held at the start, on a record of this kind; and no
reservation is new (R147, R174). -/
structure State.Told (A : Handle → Prop) (m : Link) (before s : State) : Prop where
  held : ∀ j r, s.reservation? j = some r → before.reservation? j = some r
  told : ∃ j r, before.reservation? j = some r ∧ r.holder = m ∧ A j ∧
    ((s.link m).attention.find 11).map AttentionEntry.subject = some (.handle j)

section
variable {A : Handle → Prop} {m : Link} {before t : State}

theorem State.Told.congr (h : State.Told A m before s) (reservations : t.reservations = s.reservations)
    (attention : (t.link m).attention.find 11 = (s.link m).attention.find 11) : State.Told A m before t := by
  obtain ⟨held, j, r, told⟩ := h
  refine ⟨fun j r hr => held j r ?_, j, r, ?_⟩
  · rwa [State.reservation?, ← reservations]
  · rwa [attention]

theorem State.Told.mono {B : Handle → Prop} (h : State.Told A m before s) (wider : ∀ j, A j → B j) :
    State.Told B m before s := by
  obtain ⟨held, j, r, was, holder, inside, told⟩ := h
  exact ⟨held, j, r, was, holder, wider j inside, told⟩

theorem State.Told.respond (h : State.Told A m before s) (l : Link) (x : Tag) (o : Status) (d : List Byte) :
    State.Told A m before (respond l x o d s) :=
  h.congr (respond_reservations ..) (by rw [attention_respond])

theorem State.Told.raise (h : State.Told A m before s) (l : Link) (kind : AttentionKind) (x : Subject)
    (other : kind.num ≠ 11) : State.Told A m before (raise l kind x s) := by
  refine h.congr rfl ?_
  rw [link_raise]
  split
  · next same => rw [same, Table.find_put_ne _ _ _ _ other.symm]
  · rfl

theorem reservation?_removeReservation_ne {h j : Handle} (other : j ≠ h) :
    (removeReservation h s).reservation? j = s.reservation? j := by
  rw [State.reservation?, removeReservation, List.find?_filter]
  refine List.find?_congr fun x _ => ?_
  by_cases hx : x.handle = j <;> simp [hx, other]

theorem reservation?_removeReservation_some {h j : Handle} {r : Reservation}
    (found : (removeReservation h s).reservation? j = some r) : s.reservation? j = some r := by
  by_cases same : j = h
  · rw [same, reservation?_removeReservation] at found
    exact absurd found nofun
  · rwa [reservation?_removeReservation_ne same] at found

theorem reservation?_revokeReservation_ne {h j : Handle} (other : j ≠ h) :
    (revokeReservation h s).reservation? j = s.reservation? j := by
  rw [revokeReservation]
  split
  · exact reservation?_removeReservation_ne other
  · rfl

/-- The holder of the revoked reservation is told (R147). -/
theorem told_revokeReservation {i : Handle} {r : Reservation}
    (old : ∀ j r, s.reservation? j = some r → before.reservation? j = some r) (held : s.reservation? i = some r)
    (inside : A i) : State.Told A r.holder before (revokeReservation i s) := by
  rw [revokeReservation, held]
  exact ⟨fun j r hr => old j r (reservation?_removeReservation_some hr), i, r, old i r held, rfl, inside,
    attention_raise r.holder .reservationRevoked (.handle i) _⟩

/-- A revocation tells the holder, and another link stays told (R147). -/
theorem State.Told.revoke (h : State.Told A m before s) {i : Handle} (inside : A i) :
    State.Told A m before (revokeReservation i s) := by
  rw [revokeReservation]
  split
  · next r found =>
    by_cases own : r.holder = m
    · have told := told_revokeReservation h.held found inside
      rwa [own, revokeReservation, found] at told
    · obtain ⟨held, j, x, was, holder, inside', told⟩ := h
      refine ⟨fun j r hr => held j r (reservation?_removeReservation_some hr), j, x, was, holder, inside', ?_⟩
      rw [link_raise, if_neg (Ne.symm own)]
      exact told
  · exact h

theorem keptFan_told : KeptFan (State.Told A m before) where
  waiting _ h := h.congr rfl rfl
  setContext _ _ _ h := h.congr rfl rfl
  closeContext _ _ h := (h.respond _ _ _ _).congr rfl rfl
  placeMember _ _ _ _ _ _ _ _ _ _ _ _ h := by
    obtain ⟨ts, eq⟩ := place_eq ..
    rw [eq]
    exact h.congr rfl rfl

theorem State.Told.setRuntime (h : State.Told A m before s) (x : Handle) (rt : Runtime) :
    State.Told A m before (s.setRuntime x rt) := by
  rw [State.setRuntime]
  split
  · exact h.congr rfl rfl
  · exact h

theorem State.Told.removeQueued (h : State.Told A m before s) (t : Txn) {o : Status} (failed : o ≠ .ok) :
    State.Told A m before (removeQueued t (some o) s) := by
  refine keptFan_told.removeQueued (fun _ _ _ _ told => told.respond ..) failed ?_
  have probed : State.Told A m before (if t.origin.isProbe then unprobe t.handle s else s) := by
    split
    · rw [unprobe]
      split
      · exact h.setRuntime ..
      · exact h
    · exact h
  exact probed.congr rfl rfl

theorem State.Told.quarantineEntry (h : State.Told (fun _ => True) m before s) (x : Handle) (c : QuarantineCause) :
    State.Told (fun _ => True) m before (quarantineEntry x c s) := by
  have entered : State.Told (fun _ => True) m before (setQuarantined x c s) := by
    rw [setQuarantined]
    split
    · exact h.setRuntime ..
    · exact h
  have removed : State.Told (fun _ => True) m before
      (removeAll ((setQuarantined x c s).queuedOn x) (some .cancelledQuarantine) (setQuarantined x c s)) :=
    removeAll_keeps (fun _ t _ _ told => told.removeQueued t nofun) entered
  exact ((removed.revoke trivial).raise _ _ _ (by decide)).raise _ _ _ (by decide)

/-- A commit point tells more holders, and no link anything else in the place of it (R43, R108). -/
theorem State.Told.commitPoint (h : State.Told A m before s) :
    State.Told (fun _ => True) m before (commitPoint s) := by
  have wide := h.mono (B := fun _ => True) fun _ _ => trivial
  rw [Machine.commitPoint]
  split
  · next l g k _ =>
    have checked : State.Told (fun _ => True) m before ((s.kept g).foldl recheck (installStaging g s, 0)).1 := by
      refine foldl_keeps (Q := fun acc : State × Nat => State.Told (fun _ => True) m before acc.1) _
        (fun acc n told => ?_) _ (wide.congr rfl rfl)
      rw [recheck]
      split
      · split
        · exact told.quarantineEntry ..
        · exact told
      · exact told
    exact (checked.respond ..).raise _ _ _ (by decide)
  · exact wide

theorem told_foldl_revoke {h : Handle} {r : Reservation} : ∀ {hs : List Handle} {s : State},
    (∀ j r, s.reservation? j = some r → before.reservation? j = some r) → (∀ i ∈ hs, A i) → h ∈ hs →
    s.reservation? h = some r →
    State.Told A r.holder before (hs.foldl (fun u i => revokeReservation i u) s) := by
  intro hs
  induction hs with
  | nil => exact fun _ _ member => absurd member List.not_mem_nil
  | cons i rest ih =>
    intro s old inside member held
    rw [List.foldl_cons]
    by_cases same : i = h
    · rw [same]
      refine List.foldlRecOn rest _ (told_revokeReservation old held (inside h member)) fun u told j hj => ?_
      exact told.revoke (inside j (List.mem_cons_of_mem _ hj))
    · refine ih (fun j x hx => old j x ?_) (fun j hj => inside j (List.mem_cons_of_mem _ hj))
        ((List.mem_cons.mp member).resolve_left (Ne.symm same)) ?_
      · by_cases own : j = i
        · rw [own, reservation?_revokeReservation] at hx
          exact absurd hx nofun
        · rwa [reservation?_revokeReservation_ne own] at hx
      · rwa [reservation?_revokeReservation_ne (Ne.symm same)]

/-- A PREEMPT arming tells the holder of each reservation on an affected record (R40, R147). -/
theorem told_preempt {h : Handle} {r : Reservation} (affected : h ∈ s.session.affected)
    (held : s.reservation? h = some r) :
    State.Told (fun j => j ∈ s.session.affected) r.holder s (preempt s) := by
  have kept : (removeAll s.preempted (some .cancelledCommit) s).reservations = s.reservations :=
    (keptRemoval_reservations s.reservations).removeAll _ _ rfl
  have same (j : Handle) :
      (removeAll s.preempted (some .cancelledCommit) s).reservation? j = s.reservation? j := by
    rw [State.reservation?, kept, State.reservation?]
  exact told_foldl_revoke (fun j r hr => (same j).symm.trans hr) (fun _ hi => hi) affected ((same h).trans held)

end

/-! ### The arming -/

theorem sameViews_preempt (s : State) : SameViews s (preempt s) :=
  foldl_revoke (SameViews s) (fun _ h views => (keptQueue_sameViews s).revokeReservation h views) _
    ((keptQueue_sameViews s).removeAll _ _ (.refl s))

/-- What stands armed holds no queued transaction and no reservation on an affected record (R40). -/
theorem not_queued_preempt {x : Txn} (member : x ∈ (preempt s).pool) (affected : x.handle ∈ s.session.affected) :
    (preempt s).isActive x = true :=
  ((drains_preempt s).queued x member (decide_eq_true affected)).resolve_right List.not_mem_nil

theorem owes_armSession_any (m : Link) {l : Link} (tag : Tag) (ps : List Byte) (mode : CommitMode) (d : Option Nat)
    (g : Configuration) (owed : s.tagsOwed) (free : (s.session.tagOn? m) = none) :
    (armSession l tag mode d g (s.accepted l tag ps)).Owes m [] := by
  have held : (s.accepted l tag ps).Owes m (tagFor m l tag ++ []) :=
    ((tagsOwed_iff.mp owed).2 m).withTag (l := l) (tag := tag)
      (i := { s.link l with outstanding := (s.link l).outstanding ++ [tag], sent := putOut l ps }) rfl
  refine held.withSession fun x => ?_
  rw [accepted_session, free, tagOn?_armed]
  simp

theorem flow_commitIfAtRest (s : State) : Flow s (commitIfAtRest s) := by
  rw [commitIfAtRest]
  split
  · exact flow_commitPoint s
  · exact .refl s

/-- Settles O23: the removals answer and tell, and the commit point that may follow takes back neither. -/
theorem preemptArmingRemoves : Obligations.PreemptArmingRemoves := by
  intro l tag ps d g expiry s ha open_ read
  obtain ⟨u, hu⟩ : ∃ u, u = armSession l tag .preempt d g (s.accepted l tag ps) := ⟨_, rfl⟩
  obtain ⟨w, hw⟩ : ∃ w, w = preempt u := ⟨_, rfl⟩
  have armed : u.session = .armed l g
      { mode := .preempt, deadline := s.after (d.getD s.tCmt), tag := tag, affected := s.affectedBy g } := by
    rw [hu]
    rfl
  have affected : u.session.affected = s.affectedBy g := by rw [armed]; rfl
  have reservations (j : Handle) : u.reservation? j = s.reservation? j := by rw [hu]; rfl
  have views : SameViews u w := hw ▸ sameViews_preempt u
  have armed' := views.session.trans armed
  have epoch : w.epoch = s.epoch := views.epoch.trans (by rw [hu]; rfl)
  obtain ⟨es, settled⟩ := (settled_settle [] (s.accepted l tag ps) (commitIfAtRest w)).rest
  have run : exec (.commit l tag ps) s = .next (settle [] (s.accepted l tag ps) (commitIfAtRest w)) := by
    rw [exec_commit_opened ha open_ read, arm, ← hu, hw]
    rfl
  refine ⟨_, run, ?_, fun owed y pooled on queued waits m x origin => ?_, fun h on r held => ?_⟩
  · by_cases rest : w.session.affected.all w.atRest = true
    · obtain ⟨session, epoch', segments, groups, configs⟩ := commitPoint_commits armed'
      rw [settled, commitIfAtRest, if_pos rest]
      exact .inl ⟨session, epoch'.trans (by rw [epoch]), segments, groups, configs⟩
    · obtain ⟨es, settled⟩ := (settled_settle [] (s.accepted l tag ps) w).rest
      rw [commitIfAtRest, if_neg rest]
      refine .inr ⟨?_, ?_, fun h on => ⟨?_, fun x hx same => isActive_settle ?_⟩⟩
      · rw [settled]; exact armed'
      · rw [settled]; exact epoch
      · rw [settled, hw]
        exact reservation?_preempt (s := u) (affected ▸ on)
      · rw [settled, hw] at hx
        rw [hw]
        exact not_queued_preempt hx (by rwa [affected, same])
  · have free : s.session.tagOn? m = none := by rw [open_]; rfl
    have owes : u.Owes m [] := hu ▸ owes_armSession_any m tag ps .preempt d g owed free
    have answered : Response.mk x .cancelledCommit (y.result []) ∈ (w.link m).queue := by
      rw [hw]
      refine answered_preempt owes (by rw [hu]; exact pooled) (decide_eq_true (by rwa [affected])) ?_ waits origin
      rw [hu]
      exact queued
    have kept := mem_queue_of_flow (flow_commitIfAtRest w) answered
    rw [settled]
    exact kept
  · have told : State.Told (fun j => j ∈ s.affectedBy g) r.holder u w := by
      rw [hw, ← affected]
      exact told_preempt (affected ▸ on) ((reservations h).trans held)
    by_cases rest : w.session.affected.all w.atRest = true
    · obtain ⟨_, j, x, was, holder, _, told⟩ := told.commitPoint
      rw [settled, commitIfAtRest, if_pos rest]
      exact ⟨j, x, (reservations j).symm.trans was, holder, told,
        fun stands => absurd (commitPoint_commits armed').1 stands⟩
    · obtain ⟨_, j, x, was, holder, inside, told⟩ := told
      rw [settled, commitIfAtRest, if_neg rest]
      exact ⟨j, x, (reservations j).symm.trans was, holder, told, fun _ => inside⟩

end

end Sys2Proof.Machine
end
